-- ==== Sys2Proof/Word.lean ====
section
/-! DEFINITION. The plain words of the part: bytes at the ports, decimal digits of codes, line levels, and the
numbers of phases and sense lines. -/

namespace Sys2Proof

/-- One character or byte at a port (R93, R164). -/
abbrev Byte := BitVec 8

/-- One decimal digit of a code, a serial or a key (R65, R184). Its subtraction is taken modulo 10 (R66). -/
abbrev Digit := Fin 10

/-- One of the three phases: 0, 1, 2 stand for P1, P2, P3 (section 1.1). -/
abbrev Phase := Fin 3

/-- One of the six general sense lines S0 to S5 (R135). -/
abbrev Line := Fin 6

/-- The level of a line. -/
inductive Level
  | low
  | high
deriving DecidableEq, Repr

end Sys2Proof
end

