-- ==== Sys2Proof/Config.lean ====
section
/-! DEFINITION. The limits, durations and fixed bytes the spec gives the part. No constant here is opaque: the spec
leaves no value open that a command computes with (log 34). -/

namespace Sys2Proof.Config

/-- Top of an energy band register (R7). -/
@[simp] def bandTop : Nat := 999999999
/-- Top of the lifetime import register and of the two lifetime amounts (R8, R23). -/
@[simp] def lifetimeTop : Nat := 999999999999
/-- Top of a test accumulator, where it saturates (R11). -/
@[simp] def testTop : Nat := 9999999
/-- Seconds after which a meter test expires (R19). -/
@[simp] def testSeconds : Nat := 3600
/-- Units of the residue in one mill (R13). -/
@[simp] def residueUnits : Nat := 10000
/-- The balance and the debt end at this many mills (R23). -/
@[simp] def moneyTop : Nat := 99999999
/-- Top of an amount setting and of emergency_advanced (R23, R24). -/
@[simp] def amountTop : Nat := 9999999
/-- The low level's default (R24). -/
@[simp] def defaultLowLevel : Nat := 10000
/-- Last day number (R46). -/
@[simp] def lastDay : Nat := 65535
/-- Last second of a day (R46). -/
@[simp] def lastSecond : Nat := 86399
/-- Seconds of a day. -/
@[simp] def daySeconds : Nat := 86400
/-- The clamp of a set from the meter host, in seconds (R49). -/
@[simp] def setClamp : Int := 300
/-- The most days one run of day processing charges (R53). -/
@[simp] def chargedDays : Nat := 7
/-- The modulus of the tariff digest (R60). -/
@[simp] def digestModulus : Nat := 10000000000
/-- Top of a price (R55). -/
@[simp] def priceTop : Nat := 999999
/-- Entries of a switch list (R55). -/
@[simp] def listTop : Nat := 8
/-- Places of the request queue (R70). -/
@[simp] def queuePlaces : Nat := 4
/-- Digits of a code (R65). -/
@[simp] def codeDigits : Nat := 24
/-- Entries of the used-code list (R83). -/
@[simp] def usedPlaces : Nat := 48
/-- Top of the issue floor, and its value after retained loss (R83, R84). -/
@[simp] def floorTop : Nat := 1000000
/-- Top of the service window's minutes (R89). -/
@[simp] def windowTop : Nat := 240
/-- Presence timer (R100). -/
@[simp] def presenceSeconds : Nat := 60
/-- Emergency step timer (R105). -/
@[simp] def stepSeconds : Nat := 10
/-- Inactivity timer (R107). -/
@[simp] def inactivitySeconds : Nat := 30
/-- Refusals that begin a lockout (R108). -/
@[simp] def lockoutRefusals : Nat := 5
/-- Minutes of a lockout (R109). -/
@[simp] def lockoutMinutes : Nat := 15
/-- Slots of the demand window (R128). -/
@[simp] def slotCount : Nat := 12
/-- Top of a demand slot, where it saturates (R128). -/
@[simp] def slotTop : Nat := 65535
/-- Top of the load limit (R132). -/
@[simp] def loadTop : Nat := 99999
/-- Top of the long backoff's span and its two lengths (R130). -/
@[simp] def tripSpan : Nat := 3600
@[simp] def longBackoff : Nat := 1800
@[simp] def shortBackoff : Nat := 60
/-- Trip times kept (R130). -/
@[simp] def tripPlaces : Nat := 3
/-- Defaults of the two thresholds (R142). -/
@[simp] def defaultBypass : Nat := 10
@[simp] def defaultReverse : Nat := 20
/-- Records the log holds (R155), and the number at which its numbering is exhausted (R152). -/
@[simp] def logPlaces : Nat := 64
@[simp] def numberEnd : Nat := 4294967296
/-- Records delivered by one READ_LOG (R157). -/
@[simp] def hostBatch : Nat := 4
@[simp] def serviceBatch : Nat := 2
/-- Most parameter bytes of a meter host request (R163) and payload characters of a character frame (R95). -/
@[simp] def hostParameters : Nat := 48
@[simp] def framePayload : Nat := 64
/-- Data bytes of one page of a paged read (R180). -/
@[simp] def pageBytes : Nat := 60

/-- Start character of a character frame (R191). -/
def startCharacter : Byte := 0x7E
/-- Kinds of character frames (R191). -/
def kindKey : Byte := 0x10
def kindPresence : Byte := 0x11
def kindStatus : Byte := 0x20
def kindResponse : Byte := 0x3F
/-- Status bytes of a read transaction (R192). -/
def statusReady : Byte := 0xA5
def statusInProgress : Byte := 0x5B
def statusNotReady : Byte := 0x3C

end Sys2Proof.Config
end

