-- ==== Sys2Proof/Syntax.lean ====
section
/-! DEFINITION. The commands the part takes: one constructor for each row of spec/opcode_table.json, in its order.
A row's rule is named in the constructor's docstring. Operands are what the event brings from outside: a line, a
level sampled at the event, a character, the parameter bytes of a request. -/

namespace Sys2Proof

/-- The eight tamper sources (R141). -/
inductive Source
  | case
  | terminalCover
  | magnet
  | bypass
  | reverse
  | ciuCase
  | ciuLink
  | metrology
deriving DecidableEq, Repr

/-- A damaged character's error. With both faults it is a framing error alone (R93). -/
inductive CharError
  | parity
  | framing
deriving DecidableEq, Repr

/-- The parts of one second tick whose order the spec leaves open (log 4). -/
inductive TickPart
  /-- the minute or day boundary, with its own fixed order (R48) -/
  | boundary
  /-- the Load Monitor's slot boundary (R129) -/
  | slot
  /-- the expiry of the load backoff (R131) -/
  | backoff
  /-- the expiry of the meter test timer (R19) -/
  | test
  /-- the expiry of the presence timer (R100) -/
  | presence
deriving DecidableEq, Repr

/-- The commands, one for each row of the table. -/
inductive Instr
  /-- PULSE_LINE_FALL (R1): a falling edge on a pulse line. -/
  | pulseLineFall (phase : Phase)
  /-- PULSE_FILTER_EXPIRY (R1): the line has been low for 1 ms. -/
  | pulseFilterExpiry (phase : Phase)
  /-- PULSE_ARRIVAL (R4): a rising edge on an ARMED line; `direction` is the level of Dn at the edge (R3);
  `openFirst` says whether the energy-while-open hand-off of R5 is taken before the others (log 32). -/
  | pulseArrival (phase : Phase) (direction : Level) (openFirst : Bool)
  /-- SECOND_TICK (R47): one second of the time base; the parts named in `first` are taken first (log 4). -/
  | secondTick (first : List TickPart)
  /-- MINUTE_BOUNDARY (R48): the second tick that reaches a minute (log 3). -/
  | minuteBoundary
  /-- DAY_BOUNDARY (R48): the second tick that reaches a day (log 3). -/
  | dayBoundary
  /-- SLOT_BOUNDARY (R129): the second tick that reaches a multiple of 5 s (log 3). -/
  | slotBoundary
  /-- BACKOFF_EXPIRY (R131): the second tick that ends the backoff (log 3). -/
  | backoffExpiry
  /-- TEST_EXPIRY (R19): the second tick that ends the meter test (log 3). -/
  | testExpiry
  /-- SERVICE_WINDOW_EXPIRY (R90): the second tick whose minute boundary closes the window (log 3). -/
  | serviceWindowExpiry
  /-- LOCKOUT_EXPIRY (R109): the second tick whose minute boundary ends the lockout (log 3). -/
  | lockoutExpiry
  /-- STEP_EXPIRY (R105): the second tick that disarms the emergency step (log 3). -/
  | stepExpiry
  /-- INACTIVITY_EXPIRY (R107): the second tick that ends the inactivity timer (log 3). -/
  | inactivityExpiry
  /-- PRESENCE_EXPIRY (R100): the second tick that lapses presence supervision (log 3). -/
  | presenceExpiry
  /-- LINK_DAMAGED_CHARACTER (R96). -/
  | linkDamagedCharacter (error : CharError)
  /-- LINK_GAP_EXPIRY (R95). -/
  | linkGapExpiry
  /-- LINK_BAD_FRAME_CHECK (R95). -/
  | linkBadFrameCheck
  /-- DIGIT_KEY (R103). -/
  | digitKey (digit : Digit)
  /-- BACK_KEY (R103). -/
  | backKey
  /-- ENTER_KEY (R104). -/
  | enterKey
  /-- EMERGENCY_KEY (R105). -/
  | emergencyKey
  /-- RECONNECT_KEY (R106). -/
  | reconnectKey
  /-- INFO_KEY (R106). -/
  | infoKey
  /-- PRESENCE_FRAME (R101): the CIU case, open or closed, and the CIU version. -/
  | presenceFrame (caseOpen : Bool) (version : Byte)
  /-- LINK_OTHER_FRAME (R97): a valid frame of another kind, or of a form the link does not take. -/
  | linkOtherFrame (kind : Byte) (payload : List Byte)
  /-- STATUS_PERIOD_EXPIRY (R99). -/
  | statusPeriodExpiry
  /-- STATUS_TRANSMIT_START (R99). -/
  | statusTransmitStart
  /-- DRIVE_COMPLETION (R115). -/
  | driveCompletion
  /-- CONFIRMATION_EXPIRY (R116). -/
  | confirmationExpiry
  /-- RETRY_EXPIRY (R116). -/
  | retryExpiry
  /-- POSITION_WATCH_EXPIRY (R121). -/
  | positionWatchExpiry
  /-- SENSE_LINE_CHANGE (R137): the raw level of a line becomes `level`. -/
  | senseLineChange (line : Line) (level : Level)
  /-- SENSE_FILTER_EXPIRY (R137). -/
  | senseFilterExpiry (line : Line)
  /-- CHECK_COMPLETION (R75). -/
  | checkCompletion
  /-- GET_STATUS (R168). -/
  | getStatus (parameters : List Byte)
  /-- GET_ACCOUNT (R45). -/
  | getAccount (parameters : List Byte)
  /-- GET_TARIFF (R63). -/
  | getTariff (parameters : List Byte)
  /-- GET_DEMAND (R133). -/
  | getDemand (parameters : List Byte)
  /-- GET_TAMPER (R151). -/
  | getTamper (parameters : List Byte)
  /-- GET_RELAY_FAULT (R124). -/
  | getRelayFault (parameters : List Byte)
  /-- PUT_PENDING_TARIFF of the meter host (R58). -/
  | hostPutPendingTariff (parameters : List Byte)
  /-- CANCEL_PENDING of the meter host (R59). -/
  | hostCancelPending (parameters : List Byte)
  /-- SUBMIT_CODE of the meter host (R72). -/
  | hostSubmitCode (parameters : List Byte)
  /-- GET_CODE_RESULT (R87). -/
  | getCodeResult (parameters : List Byte)
  /-- SET_TIME of the meter host (R49). -/
  | hostSetTime (parameters : List Byte)
  /-- REMOTE_HOLD (R112). -/
  | remoteHold (parameters : List Byte)
  /-- REMOTE_RELEASE (R112). -/
  | remoteRelease (parameters : List Byte)
  /-- REPORT_METROLOGY_TAMPER (R143). -/
  | reportMetrologyTamper (parameters : List Byte)
  /-- READ_LOG of the meter host (R157). -/
  | hostReadLog (parameters : List Byte)
  /-- SEEK_OLDEST of the meter host (R158). -/
  | hostSeekOldest (parameters : List Byte)
  /-- SEEK_NEWEST of the meter host (R158). -/
  | hostSeekNewest (parameters : List Byte)
  /-- MARK (R159). -/
  | mark (parameters : List Byte)
  /-- RETURN_TO_MARK (R159). -/
  | returnToMark (parameters : List Byte)
  /-- GET_NOTICES (R174). -/
  | getNotices (parameters : List Byte)
  /-- SET_NOTICE_ENABLE (R173). -/
  | setNoticeEnable (parameters : List Byte)
  /-- RESTART of the meter host (R171). -/
  | hostRestart (parameters : List Byte)
  /-- HOST_BAD_FRAME (R163): a write transaction whose bytes form no well-formed frame. -/
  | hostBadFrame
  /-- HOST_UNKNOWN_REQUEST (R163): a well-formed frame with a code that names no request. -/
  | hostUnknownRequest (code : Byte)
  /-- RESPONSE_COMPLETION (R164). -/
  | responseCompletion
  /-- READ_STATUS (R182). -/
  | readStatus (parameters : List Byte)
  /-- READ_ACCOUNT (R45). -/
  | readAccount (parameters : List Byte)
  /-- READ_TARIFF (R63). -/
  | readTariff (parameters : List Byte)
  /-- READ_DEMAND (R133). -/
  | readDemand (parameters : List Byte)
  /-- READ_TAMPER (R151). -/
  | readTamper (parameters : List Byte)
  /-- READ_LINK (R96). -/
  | readLink (parameters : List Byte)
  /-- READ_ENERGY (R182). -/
  | readEnergy (parameters : List Byte)
  /-- READ_CODE_LIST (R83). -/
  | readCodeList (parameters : List Byte)
  /-- READ_CODE_RESULT (R88). -/
  | readCodeResult (parameters : List Byte)
  /-- READ_LOG of the service port (R157). -/
  | serviceReadLog (parameters : List Byte)
  /-- SEEK_OLDEST of the service port (R158). -/
  | serviceSeekOldest (parameters : List Byte)
  /-- SEEK_NEWEST of the service port (R158). -/
  | serviceSeekNewest (parameters : List Byte)
  /-- SUBMIT_CODE of the service port (R72). -/
  | serviceSubmitCode (parameters : List Byte)
  /-- COMMISSION (R184). -/
  | commission (parameters : List Byte)
  /-- COMMISSION_COMPLETION (R185). -/
  | commissionCompletion
  /-- WRITE_CONFIG (R183). -/
  | writeConfig (parameters : List Byte)
  /-- WRITE_FUNCTION_TABLE (R136). -/
  | writeFunctionTable (parameters : List Byte)
  /-- SET_TIME of the service port (R50). -/
  | serviceSetTime (parameters : List Byte)
  /-- PUT_PENDING_TARIFF of the service port (R58). -/
  | servicePutPendingTariff (parameters : List Byte)
  /-- CANCEL_PENDING of the service port (R59). -/
  | serviceCancelPending (parameters : List Byte)
  /-- SERVICE_HOLD (R113). -/
  | serviceHold (parameters : List Byte)
  /-- SERVICE_RELEASE (R113). -/
  | serviceRelease (parameters : List Byte)
  /-- RETRY_RELAY (R122). -/
  | retryRelay (parameters : List Byte)
  /-- TEST_START (R16). -/
  | testStart (parameters : List Byte)
  /-- TEST_END (R19). -/
  | testEnd (parameters : List Byte)
  /-- RESTORE_ACCOUNT (R43). -/
  | restoreAccount (parameters : List Byte)
  /-- CLEAR_LINK_COUNTS (R96). -/
  | clearLinkCounts (parameters : List Byte)
  /-- RESTART of the service port (R189). -/
  | serviceRestart (parameters : List Byte)
  /-- SERVICE_UNKNOWN_REQUEST (R181): a frame whose kind names no request. -/
  | serviceUnknownRequest (kind : Byte) (payload : List Byte)
  /-- SERVICE_GAP_EXPIRY (R179). -/
  | serviceGapExpiry
  /-- SERVICE_RESPONSE_TRANSMIT (R180). -/
  | serviceResponseTransmit
  /-- MAINS_LOSS (R177). -/
  | mainsLoss
  /-- MAINS_RETURN (R178); `strap` is the level of ADDR, sampled as the meter host port starts (R162). -/
  | mainsReturn (strap : Level)
  /-- RESET_ASSERT (R186). -/
  | resetAssert
  /-- RESET_RELEASE (R186). -/
  | resetRelease
  /-- INIT_MAINS_CHANGE (R186): MAINS_GOOD becomes high or low during INITIALIZING. -/
  | initMainsChange (mainsGood : Level)
  /-- END_OF_INITIALIZING (R187); `strap` is the level of ADDR (R162); the deferred detections of the sources in
  `first` are taken first (log 23). -/
  | endOfInitializing (strap : Level) (first : List Source)
  /-- PULSE_GLITCH (R1): a rising edge on a line whose filter is WAITING. -/
  | pulseGlitch (phase : Phase)
  /-- LINK_GOOD_CHARACTER (R95). -/
  | linkGoodCharacter (character : Byte)
  /-- SERVICE_GOOD_CHARACTER (R179). -/
  | serviceGoodCharacter (character : Byte)
  /-- SERVICE_DAMAGED_CHARACTER (R179). -/
  | serviceDamagedCharacter
  /-- SERVICE_BAD_FRAME_CHECK (R179). -/
  | serviceBadFrameCheck
  /-- STATUS_FRAME_END (R99). -/
  | statusFrameEnd
  /-- SERVICE_RESPONSE_END (R180). -/
  | serviceResponseEnd
  /-- BACKUP_AND_MAINS_LOST (R188). -/
  | backupAndMainsLost
  /-- POWERED_FROM_NOTHING (R186): the levels of MAINS_GOOD and RESET as the supply rises. -/
  | poweredFromNothing (mainsGood : Level) (resetAsserted : Bool)
deriving DecidableEq, Repr

end Sys2Proof
end

