-- ==== Sys2Proof/Machine/State.lean ====
section
/-! DEFINITION. Everything the spec gives the 3T24 to hold, as plain data, grouped by the block that owns it
(Table 0-1), and its value right after reset. INVENTORY.md lists every field with its rule. -/

namespace Sys2Proof.Machine

/-! ### Names (Table 11-2, Table 11-3) -/

/-- Part states (R176). -/
inductive PartState
  | initializing
  | uncommissioned
  | inService
  | accountLost
deriving DecidableEq, Repr

/-- The power state follows MAINS_GOOD (R177). `none` is the always-on domain without supply (R188, log 25). -/
inductive Supply
  | mains
  | battery
  | none
deriving DecidableEq, Repr

/-- Outcomes and results share one naming space (Table 11-3). -/
inductive Result
  | accepted
  | queued
  | notCommissioned
  | accountLost
  | badCheck
  | unknownClass
  | badValue
  | duplicate
  | tooOld
  | expired
  | blocked
  | overLimit
  | noPending
  | mismatch
  | aborted
  | busy
  | queueFull
  | badFrame
  | unknownRequest
  | badTariff
  | windowClosed
  | alreadyCommissioned
  | wrongState
  | noMark
  | short
  | full
  | lockedOut
  | notOffered
  | alreadyTaken
  | notNeeded
deriving DecidableEq, Repr

/-- Credit states (R28). -/
inductive CreditState
  | inCredit
  | low
  | exhausted
deriving DecidableEq, Repr

/-- Reasons of a debit or of a discarded amount (R26, R42). -/
inductive DebitReason
  | energy
  | standing
  | debtSet
deriving DecidableEq, Repr

/-- Causes of ending a meter test (Table 1-8). -/
inductive TestCause
  | endRequest
  | expiry
  | window
  | restart
  | reset
  | mainsLoss
deriving DecidableEq, Repr

/-- A position of the relay's contacts (R114). -/
inductive Position
  | open
  | closed
deriving DecidableEq, Repr

/-- Causes of a relay fault (R124). -/
inductive FaultCause
  | openFailed
  | closeFailed
  | unexpectedPosition
deriving DecidableEq, Repr

/-- Names of the relay states (R114). -/
inductive RelayName
  | closed
  | opening
  | open
  | reconnectReady
  | closing
  | stuck
deriving DecidableEq, Repr

/-- The six open reasons (R111). -/
inductive Reason
  | credit
  | tamper
  | load
  | remote
  | service
  | account
deriving DecidableEq, Repr

/-- The nine notices (R172), in the coding order of Table 11-2. -/
inductive Notice
  | credit
  | relay
  | tamper
  | codeResult
  | tariff
  | timeClamped
  | logNew
  | restarted
  | account
deriving DecidableEq, Repr

/-- Functions of a sense line (R135). -/
inductive LineFunction
  | none
  | case
  | terminalCover
  | magnet
  | auxContact
  | reconnectButton
deriving DecidableEq, Repr

/-- Actions of a tamper source (R144). -/
inductive SourceAction
  | log
  | open
  | openBlock
deriving DecidableEq, Repr

/-- Sources of a code (R65). -/
inductive CodeSource
  | keypad
  | meterHost
  | service
deriving DecidableEq, Repr

/-- What a keypad outcome answers (R102). -/
inductive KeyRequest
  | code
  | entry
  | emergency
deriving DecidableEq, Repr

/-- The CIU case state (R101). -/
inductive CiuCase
  | unknown
  | closed
  | open
deriving DecidableEq, Repr

/-- The four link rates (R94). -/
inductive LinkRate
  | r1200
  | r2400
  | r4800
  | r9600
deriving DecidableEq, Repr

/-- Configuration items (Table 10-3). -/
inductive ConfigItem
  | lowLevel
  | friendlyFloor
  | emergencyAmount
  | emergencyThreshold
  | friendlyWindow
  | codeValidityDays
  | linkRate
  | loadLimit
  | bypassThreshold
  | reverseThreshold
  | sourceAction
deriving DecidableEq, Repr

/-! ### Values -/

/-- Meter time: a day number and a second of day (R46). -/
structure MeterTime where
  day : Nat
  second : Nat
deriving DecidableEq, Repr

/-- The open-reason set (R111): which of the six reasons it holds. -/
structure Reasons where
  credit : Bool
  tamper : Bool
  load : Bool
  remote : Bool
  service : Bool
  account : Bool
deriving DecidableEq, Repr

/-- A set of notices: member k of `Notice` is bit k, as R190 carries it. -/
abbrev NoticeSet := BitVec 9

/-- A set of outcome names: ACCEPTED is bit 0, then the outcomes 0x10 to 0x1C (Table 11-2). -/
abbrev OutcomeSet := BitVec 14

/-- One entry of a switch list (R55). -/
structure SwitchEntry where
  minute : Nat
  band : Nat
deriving DecidableEq, Repr

/-- The tariff record (Table 3-2). -/
structure Tariff where
  prices : Vector Nat 4
  standing : Nat
  workList : List SwitchEntry
  restList : List SwitchEntry
  restMask : Nat
  activationDay : Nat
  activationMinute : Nat
deriving DecidableEq, Repr

/-- One entry of the friendly window table (R35). -/
structure FriendlyWindow where
  start : Nat
  finish : Nat
  mask : Nat
deriving DecidableEq, Repr

/-! ### Blocks -/

/-- A pulse filter's state (R1). -/
inductive PulseFilter
  | waiting
  | armed
deriving DecidableEq, Repr

/-- Pulse Intake (chapter 1). -/
structure Intake where
  /-- the three pulse filters (R1) -/
  filters : Vector PulseFilter 3
  /-- the levels of P1 to P3 -/
  pulseLines : Vector Level 3
  /-- E0 to E3 (R7) -/
  bands : Vector Nat 4
  /-- the lifetime import register (R8) -/
  lifetime : Nat
  /-- the reverse accumulator (R9) -/
  reverse : Nat
  /-- the energy-while-open accumulator (R10) -/
  openEnergy : Nat
  /-- the test accumulators of each phase (R11) -/
  testImport : Vector Nat 3
  testExport : Vector Nat 3
  /-- the TEST sub-state (R16) -/
  testActive : Bool
  /-- elapsed seconds of the meter test (R19) -/
  testTimer : Nat
deriving DecidableEq, Repr

/-- The account record (Table 2-1). -/
structure Account where
  balance : Int
  emergency : Nat
  debt : Nat
  recoveryPercent : Nat
  purchased : Nat
  charged : Nat
  creditState : CreditState
deriving DecidableEq, Repr

/-- The account settings (Table 2-2). -/
structure Settings where
  /-- L -/
  lowLevel : Nat
  /-- F -/
  friendlyFloor : Int
  /-- E -/
  emergencyAmount : Nat
  /-- T -/
  emergencyThreshold : Nat
  windows : Vector FriendlyWindow 4
deriving DecidableEq, Repr

/-- Meter time, its state and the last charged day (R46, R52). -/
structure Clock where
  now : MeterTime
  isSet : Bool
  lastCharged : Option Nat
deriving DecidableEq, Repr

/-- The pending tariff with its confirmed flag (R58). -/
structure PendingTariff where
  tariff : Tariff
  confirmed : Bool
deriving DecidableEq, Repr

/-- The active and the pending tariff (R56, R58). -/
structure Tariffs where
  active : Tariff
  pending : Option PendingTariff
deriving DecidableEq, Repr

/-- An entry of the request queue, or the code in check (R70, R74). -/
structure QueuedCode where
  source : CodeSource
  digits : List Digit
  ticket : Nat
deriving DecidableEq, Repr

/-- An entry of the used-code list (R83). -/
structure UsedCode where
  issue : Nat
  codeClass : Digit
  day : Option Nat
deriving DecidableEq, Repr

/-- The Code Checker (chapter 4). -/
structure Codes where
  /-- the request queue, oldest first (R70) -/
  queue : List QueuedCode
  /-- the code in check (R74) -/
  inCheck : Option QueuedCode
  /-- the next-ticket number (R70) -/
  nextTicket : Nat
  /-- the used-code list, ascending by issue number (R83) -/
  used : List UsedCode
  /-- the issue floor (R83) -/
  floor : Nat
  /-- code_validity_days (R79) -/
  validityDays : Nat
  /-- the service window: 0 is CLOSED, else OPEN with so many minutes (R89) -/
  windowMinutes : Nat
deriving DecidableEq, Repr

/-- Keypad Entry (R102, R108, R109). -/
structure Keypad where
  /-- the entry buffer in the order typed -/
  buffer : List Digit
  /-- the emergency step's timer: 0 is DISARMED -/
  stepTimer : Nat
  /-- the info page selector -/
  page : Nat
  /-- the last keypad outcome -/
  outcome : Option (Result × KeyRequest)
  /-- the inactivity timer: 0 is idle -/
  inactivity : Nat
  /-- the refusal counter -/
  refusals : Nat
  /-- the lockout's minutes: 0 is none -/
  lockout : Nat
deriving DecidableEq, Repr

/-- A receiver's frame assembly (R95): the characters taken after the start character. -/
inductive Assembly
  | hunting
  | assembling (held : List Byte)
deriving DecidableEq, Repr

/-- Presence supervision (R100). -/
inductive Presence
  | waitingFirst
  | watching (left : Nat)
  | lapsed
deriving DecidableEq, Repr

/-- The customer link (chapter 5). -/
structure Link where
  rate : LinkRate
  parityErrors : Nat
  framingErrors : Nat
  badFrames : Nat
  assembly : Assembly
  presence : Presence
  ciuCase : CiuCase
  ciuVersion : Option Byte
  /-- the payload of the STATUS frame in transmission (R98) -/
  sending : Option (List Byte)
  /-- a start of the link or a change waits for its STATUS frame (R99, cases 1 and 2) -/
  statusDue : Bool
  /-- a STATUS frame has begun since the link's start, so the 2 s period runs (R99, case 3) -/
  periodRunning : Bool
deriving DecidableEq, Repr

/-- One attempt of a relay operation (R115, R116). -/
structure Attempt where
  /-- attempt 2 -/
  second : Bool
  /-- an auxiliary position existed at the drive start -/
  auxAtStart : Bool
  /-- the drive line is raised -/
  driving : Bool
  /-- the attempt is confirmed -/
  confirmed : Bool
  /-- the retry wait runs -/
  waiting : Bool
deriving DecidableEq, Repr

/-- The relay state (R114). `unheld` is INITIALIZING, when no relay state is held (R126). -/
inductive RelayState
  | unheld
  | closed
  | open
  | reconnectReady
  | opening (attempt : Attempt)
  | closing (attempt : Attempt)
  | stuck (target : Position)
deriving DecidableEq, Repr

/-- The relay fault record (R124); an absent time is the marker UNSET. -/
structure RelayFault where
  cause : FaultCause
  time : Option MeterTime
  multiple : Bool
deriving DecidableEq, Repr

/-- The Relay Controller (chapter 6). -/
structure Relay where
  reasons : Reasons
  state : RelayState
  lastConfirmed : Position
  fault : Option RelayFault
deriving DecidableEq, Repr

/-- The Load Monitor (section 6.5). -/
structure Load where
  /-- the demand window, oldest slot first; slot 11 is current (R128) -/
  slots : Vector Nat 12
  /-- W; 0 is no limit (R132) -/
  limit : Nat
  pendingLimit : Option Nat
  /-- the backoff's seconds: 0 is none (R131) -/
  backoff : Nat
  /-- trip times in seconds, oldest first (R130) -/
  history : List Nat
deriving DecidableEq, Repr

/-- One entry of the sense line function table (R135). -/
structure LineEntry where
  function : LineFunction
  activeHigh : Bool
  filterTime : Nat
deriving DecidableEq, Repr

/-- A sense line: its raw level, its filtered state (ACTIVE is true), its filter (timing is true) (R137). -/
structure SenseLine where
  raw : Level
  filtered : Bool
  timing : Bool
deriving DecidableEq, Repr

/-- Deferred detections (R140). -/
structure Deferred where
  case : Bool
  terminalCover : Bool
  magnet : Bool
deriving DecidableEq, Repr

/-- A source entry (R144). `firstTime` is absent, or the marker UNSET (`some none`), or a time. -/
structure SourceEntry where
  action : SourceAction
  latched : Bool
  count : Nat
  firstTime : Option (Option MeterTime)
  record : Option Nat
deriving DecidableEq, Repr

/-- The Tamper Monitor (chapter 7). -/
structure Tamper where
  table : Vector LineEntry 6
  lines : Vector SenseLine 6
  deferred : Deferred
  bypassThreshold : Nat
  reverseThreshold : Nat
  sources : Vector SourceEntry 8
deriving DecidableEq, Repr

/-- A log record's kind with its data (Table 8-2). -/
inductive LogData
  | tamper (source : Source) (detail : Option Byte)
  | tamperInService (source : Source) (count : Nat)
  | tamperCleared (parameter : Nat) (unlatched : Nat)
  | relay (state : RelayName) (reasons : Reasons)
  | relayFault (cause : FaultCause) (target : Position)
  | codeAccepted (classAndIssue : Nat) (value : Nat)
  | creditState (state : CreditState) (balance : Int)
  | emergencyTaken (amount : Nat) (balance : Int)
  | lockout (minutes : Nat)
  | loadTrip (sum : Nat) (limit : Nat)
  | timeSet (old : Option MeterTime) (new : MeterTime)
  | daysForgone (days : Nat) (day : Nat)
  | tariffActivated (digest : Nat) (day : Nat) (minute : Nat)
  | testEnd (total : Nat) (cause : TestCause)
  | powerFail
  | powerReturn
  | accountLost
  | accountRestored (balance : Int) (debt : Nat)
  | accountCleared (balance : Int) (debt : Nat)
  | accountLimit (mills : Nat) (reason : DebitReason)
  | configChanged (item : ConfigItem) (index : Nat) (value : Option Int)
deriving DecidableEq, Repr

/-- A log record (Table 8-1); an absent time is the marker UNSET. -/
structure LogRecord where
  number : Nat
  time : Option MeterTime
  data : LogData
deriving DecidableEq, Repr

/-- The Event Log (chapter 8). -/
structure Log where
  records : List LogRecord
  next : Nat
  hostCursor : Nat
  serviceCursor : Nat
  mark : Option Nat
deriving DecidableEq, Repr

/-- A response: its result and its data bytes. -/
structure Answer where
  result : Result
  data : List Byte
deriving DecidableEq, Repr

/-- The response buffer (R164). -/
inductive ResponseBuffer
  | empty
  | preparing (answer : Answer)
  | ready (answer : Answer)
deriving DecidableEq, Repr

/-- A last-result record (R87, R88); the class and the issue number are present together. -/
structure LastResult where
  ticket : Nat
  outcome : Result
  classIssue : Option (Digit × Nat)
deriving DecidableEq, Repr

/-- The framing of a transaction on the bus (R162): none that the port takes part in; a write, with the bytes taken in
the order written; a read, with the buffer as it stood at its beginning and the bytes supplied (log 12). -/
inductive Transaction
  | idle
  | writing (taken : List Byte)
  | reading (buffer : ResponseBuffer) (supplied : Nat)
deriving DecidableEq, Repr

/-- The meter host port (chapter 9). -/
structure HostPort where
  address : Byte
  transaction : Transaction
  response : ResponseBuffer
  badFrames : Nat
  notices : NoticeSet
  enabled : NoticeSet
  lastResult : Option LastResult
  seen : OutcomeSet
deriving DecidableEq, Repr

/-- A response frame of the service port: the request it answers, and the answer (R180). -/
structure Reply where
  request : Byte
  answer : Answer
deriving DecidableEq, Repr

/-- The written contents of the One-Time Store (R184). -/
structure OneTime where
  serial : List Digit
  key : List Digit
deriving DecidableEq, Repr

/-- The service port (section 10.2). -/
structure ServicePort where
  assembly : Assembly
  sending : Option Reply
  waiting : Option Reply
  lastResult : Option LastResult
  /-- the COMMISSION write in flight (R184) -/
  commissioning : Option OneTime
deriving DecidableEq, Repr

/-- The part-wide states (R176, R177, R186, R188). -/
structure Power where
  part : PartState
  supply : Supply
  resetAsserted : Bool
  /-- the 20 ms initialization time runs -/
  initTiming : Bool
  /-- the retained store satisfies its check value -/
  storeIntact : Bool
deriving DecidableEq, Repr

/-- The whole part. -/
structure Device where
  power : Power
  intake : Intake
  residue : Nat
  account : Account
  settings : Settings
  clock : Clock
  tariffs : Tariffs
  codes : Codes
  keypad : Keypad
  link : Link
  relay : Relay
  load : Load
  tamper : Tamper
  log : Log
  host : HostPort
  service : ServicePort
  /-- the One-Time Store; present exactly when the commissioned flag is true -/
  oneTime : Option OneTime
deriving DecidableEq, Repr

/-- The machine: the part, and the commands that wait, first in first out. -/
structure State where
  device : Device
  pending : List Instr
deriving DecidableEq, Repr

/-- The block has no machine fault: nothing the spec describes stops it. -/
inductive Fault
  /-- Raised by no command. Safe. -/
  | unraised
deriving DecidableEq, Repr

/-- Why a command has no meaning here. -/
inductive Refusal
  /-- Raised by `exec` for a row that has no meaning yet (none has been left). Safe. -/
  | notModelled (mnemonic : String)
deriving DecidableEq, Repr

/-! ### One update for each block -/

namespace Device

def setPower (d : Device) (x : Power) : Device := { d with power := x }
def setIntake (d : Device) (x : Intake) : Device := { d with intake := x }
def setResidue (d : Device) (x : Nat) : Device := { d with residue := x }
def setAccount (d : Device) (x : Account) : Device := { d with account := x }
def setSettings (d : Device) (x : Settings) : Device := { d with settings := x }
def setClock (d : Device) (x : Clock) : Device := { d with clock := x }
def setTariffs (d : Device) (x : Tariffs) : Device := { d with tariffs := x }
def setCodes (d : Device) (x : Codes) : Device := { d with codes := x }
def setKeypad (d : Device) (x : Keypad) : Device := { d with keypad := x }
def setLink (d : Device) (x : Link) : Device := { d with link := x }
def setRelay (d : Device) (x : Relay) : Device := { d with relay := x }
def setLoad (d : Device) (x : Load) : Device := { d with load := x }
def setTamper (d : Device) (x : Tamper) : Device := { d with tamper := x }
def setLog (d : Device) (x : Log) : Device := { d with log := x }
def setHost (d : Device) (x : HostPort) : Device := { d with host := x }
def setService (d : Device) (x : ServicePort) : Device := { d with service := x }
def setOneTime (d : Device) (x : Option OneTime) : Device := { d with oneTime := x }

end Device

/-! ### After retained loss (Table 10-4), and right after reset -/

/-- The active tariff after retained loss (R56). -/
def lossTariff : Tariff :=
  { prices := Vector.replicate 4 0, standing := 0, workList := [], restList := [], restMask := 0,
    activationDay := 0, activationMinute := 0 }

/-- The account after retained loss (R41). -/
def lossAccount : Account :=
  { balance := 0, emergency := 0, debt := 0, recoveryPercent := 0, purchased := 0, charged := 0,
    creditState := .exhausted }

/-- The settings after retained loss (R41). -/
def lossSettings : Settings :=
  { lowLevel := Config.defaultLowLevel, friendlyFloor := 0, emergencyAmount := 0, emergencyThreshold := 0,
    windows := Vector.replicate 4 { start := 0, finish := 0, mask := 0 } }

/-- Meter time after retained loss (R64). -/
def lossClock : Clock := { now := { day := 0, second := 0 }, isSet := false, lastCharged := none }

/-- The default function table (Table 7-2). -/
def lossTable : Vector LineEntry 6 :=
  #v[{ function := .case, activeHigh := false, filterTime := 50 },
     { function := .terminalCover, activeHigh := false, filterTime := 50 },
     { function := .magnet, activeHigh := false, filterTime := 50 },
     { function := .auxContact, activeHigh := false, filterTime := 50 },
     { function := .reconnectButton, activeHigh := false, filterTime := 50 },
     { function := .none, activeHigh := false, filterTime := 50 }]

/-- A source entry after retained loss: latched, with its default action (R150). -/
def lossSource (action : SourceAction) : SourceEntry :=
  { action := action, latched := true, count := 0, firstTime := none, record := none }

/-- The source entries after retained loss (Table 7-7, R150). -/
def lossSources : Vector SourceEntry 8 :=
  #v[lossSource .openBlock, lossSource .open, lossSource .open, lossSource .openBlock,
     lossSource .log, lossSource .log, lossSource .log, lossSource .log]

/-- The open-reason set with no member. -/
def noReasons : Reasons :=
  { credit := false, tamper := false, load := false, remote := false, service := false, account := false }

/-- No deferred detection. -/
def noDeferred : Deferred := { case := false, terminalCover := false, magnet := false }

/-- The part powered from nothing, its 20 ms initialization time running (R186; logs 5 and 6). -/
def resetDevice : Device where
  power := { part := .initializing, supply := .mains, resetAsserted := false, initTiming := true, storeIntact := false }
  intake :=
    { filters := Vector.replicate 3 .waiting, pulseLines := Vector.replicate 3 .low, bands := Vector.replicate 4 0,
      lifetime := 0, reverse := 0, openEnergy := 0, testImport := Vector.replicate 3 0,
      testExport := Vector.replicate 3 0, testActive := false, testTimer := 0 }
  residue := 0
  account := lossAccount
  settings := lossSettings
  clock := lossClock
  tariffs := { active := lossTariff, pending := none }
  codes :=
    { queue := [], inCheck := none, nextTicket := 0, used := [], floor := Config.floorTop, validityDays := 0,
      windowMinutes := 0 }
  keypad :=
    { buffer := [], stepTimer := 0, page := 0, outcome := none, inactivity := 0, refusals := 0, lockout := 0 }
  link :=
    { rate := .r2400, parityErrors := 0, framingErrors := 0, badFrames := 0, assembly := .hunting,
      presence := .waitingFirst, ciuCase := .unknown, ciuVersion := none, sending := none, statusDue := false,
      periodRunning := false }
  relay := { reasons := noReasons, state := .unheld, lastConfirmed := .open, fault := none }
  load := { slots := Vector.replicate 12 0, limit := 0, pendingLimit := none, backoff := 0, history := [] }
  tamper :=
    { table := lossTable, lines := Vector.replicate 6 { raw := .high, filtered := false, timing := false },
      deferred := noDeferred, bypassThreshold := Config.defaultBypass, reverseThreshold := Config.defaultReverse,
      sources := lossSources }
  log := { records := [], next := 0, hostCursor := 0, serviceCursor := 0, mark := none }
  host :=
    { address := 0x24, transaction := .idle, response := .empty, badFrames := 0, notices := 0,
      enabled := BitVec.allOnes 9, lastResult := none, seen := 0 }
  service := { assembly := .hunting, sending := none, waiting := none, lastResult := none, commissioning := none }
  oneTime := none

/-- The machine right after reset: no command waits. -/
def State.reset : State := { device := resetDevice, pending := [] }

end Sys2Proof.Machine
end

