-- ==== Sys2Proof/Machine/Operands.lean ====
section
/-! DEFINITION. The forms in which operands cross the ports (chapter 11): numbers, names, sets, times, digits, the
packed tariff, the delivered log record; and the reading of request parameters. -/

namespace Sys2Proof.Machine

/-! ### Numbers (R190) -/

/-- A number in `w` bytes, most significant first (R190). -/
def beBytes : Nat → Nat → List Byte
  | 0, _ => []
  | w + 1, n => beBytes w (n / 256) ++ [BitVec.ofNat 8 n]

/-- The number that bytes carry, most significant first (R190). -/
def beNat (bytes : List Byte) : Nat := bytes.foldl (fun n b => n * 256 + b.toNat) 0

/-- A signed amount in `w` bytes, two's complement (R190). -/
def signedBytes (w : Nat) (x : Int) : List Byte := beBytes w (x % (256 ^ w : Nat)).toNat

/-- The signed amount that four bytes carry (R190). -/
def beSigned (bytes : List Byte) : Int :=
  let n := beNat bytes
  if n < 2147483648 then (n : Int) else (n : Int) - 4294967296

/-- An absent field of `w` bytes (R190). -/
def absentBytes (w : Nat) : List Byte := List.replicate w 0xFF

/-- A number that may be absent, in `w` bytes (R190). -/
def optionalBytes (w : Nat) : Option Nat → List Byte
  | none => absentBytes w
  | some n => beBytes w n

/-- Yes or no (R190). -/
def yesNo (b : Bool) : List Byte := [if b then 1 else 0]

/-- The check byte that brings the sum of a frame to 0 modulo 256 (R95, R163, R164). -/
def checkByte (bytes : List Byte) : Byte := 0 - bytes.foldl (· + ·) 0

/-- Whether bytes sum to 0 modulo 256 (R95, R163). -/
def sumsToZero (bytes : List Byte) : Bool := bytes.foldl (· + ·) 0 == 0

/-! ### Names (Table 11-2, Table 11-3) -/

def partCode : PartState → Nat
  | .initializing => 0
  | .uncommissioned => 1
  | .inService => 2
  | .accountLost => 3

def creditCode : CreditState → Nat
  | .inCredit => 0
  | .low => 1
  | .exhausted => 2

def relayCode : RelayName → Nat
  | .closed => 0
  | .opening => 1
  | .open => 2
  | .reconnectReady => 3
  | .closing => 4
  | .stuck => 5

def positionCode : Position → Nat
  | .open => 0
  | .closed => 1

def faultCode : FaultCause → Nat
  | .openFailed => 0
  | .closeFailed => 1
  | .unexpectedPosition => 2

def presenceCode : Presence → Nat
  | .waitingFirst => 0
  | .watching _ => 1
  | .lapsed => 2

def ciuCaseCode : CiuCase → Nat
  | .unknown => 0
  | .closed => 1
  | .open => 2

def functionCode : LineFunction → Nat
  | .none => 0
  | .case => 1
  | .terminalCover => 2
  | .magnet => 3
  | .auxContact => 4
  | .reconnectButton => 5

def actionCode : SourceAction → Nat
  | .log => 0
  | .open => 1
  | .openBlock => 2

def testCauseCode : TestCause → Nat
  | .endRequest => 0
  | .expiry => 1
  | .window => 2
  | .restart => 3
  | .reset => 4
  | .mainsLoss => 5

def debitCode : DebitReason → Nat
  | .energy => 0
  | .standing => 1
  | .debtSet => 2

def keyRequestCode : KeyRequest → Nat
  | .code => 0
  | .entry => 1
  | .emergency => 2

def configCode : ConfigItem → Nat
  | .lowLevel => 0
  | .friendlyFloor => 1
  | .emergencyAmount => 2
  | .emergencyThreshold => 3
  | .friendlyWindow => 4
  | .codeValidityDays => 5
  | .linkRate => 6
  | .loadLimit => 7
  | .bypassThreshold => 8
  | .reverseThreshold => 9
  | .sourceAction => 10

/-- Source numbers (R141). -/
def sourceNumber : Source → Fin 8
  | .case => 0
  | .terminalCover => 1
  | .magnet => 2
  | .bypass => 3
  | .reverse => 4
  | .ciuCase => 5
  | .ciuLink => 6
  | .metrology => 7

/-- The sources in the order of their numbers (Table 7-5). -/
def allSources : List Source :=
  [.case, .terminalCover, .magnet, .bypass, .reverse, .ciuCase, .ciuLink, .metrology]

/-- The source of a number (R141). -/
def sourceOfNumber (n : Nat) : Option Source := allSources[n]?

/-- Result and outcome codes (Table 11-3). -/
def resultCode : Result → Nat
  | .accepted => 0x00
  | .queued => 0x01
  | .notCommissioned => 0x10
  | .accountLost => 0x11
  | .badCheck => 0x12
  | .unknownClass => 0x13
  | .badValue => 0x14
  | .duplicate => 0x15
  | .tooOld => 0x16
  | .expired => 0x17
  | .blocked => 0x18
  | .overLimit => 0x19
  | .noPending => 0x1A
  | .mismatch => 0x1B
  | .aborted => 0x1C
  | .busy => 0x20
  | .queueFull => 0x21
  | .badFrame => 0x22
  | .unknownRequest => 0x23
  | .badTariff => 0x24
  | .windowClosed => 0x25
  | .alreadyCommissioned => 0x26
  | .wrongState => 0x27
  | .noMark => 0x28
  | .short => 0x30
  | .full => 0x31
  | .lockedOut => 0x32
  | .notOffered => 0x33
  | .alreadyTaken => 0x34
  | .notNeeded => 0x35

/-- The place of an outcome in the outcome-seen set: ACCEPTED, then 0x10 to 0x1C (Table 11-2). -/
def outcomeBit (r : Result) : Nat := if r = .accepted then 0 else resultCode r - 15

/-- The place of a notice in a notice set (Table 11-2). -/
def noticeBit : Notice → Nat
  | .credit => 0
  | .relay => 1
  | .tamper => 2
  | .codeResult => 3
  | .tariff => 4
  | .timeClamped => 5
  | .logNew => 6
  | .restarted => 7
  | .account => 8

/-- The set that holds one notice. -/
def noticeSet (n : Notice) : NoticeSet := 1#9 <<< noticeBit n

/-- The one byte of a name (R190). -/
def nameByte (code : Nat) : List Byte := beBytes 1 code

/-- The open-reason set as a number, its first member least significant (R190, Table 11-2). -/
def reasonsCode (r : Reasons) : Nat :=
  r.credit.toNat + 2 * r.tamper.toNat + 4 * r.load.toNat + 8 * r.remote.toNat + 16 * r.service.toNat
    + 32 * r.account.toNat

/-! ### Times and records (R190, R193) -/

/-- Meter time in 5 bytes; UNSET is all 0xFF (R190). -/
def meterTimeBytes : Option MeterTime → List Byte
  | none => absentBytes 5
  | some t => beBytes 2 t.day ++ beBytes 3 t.second

/-- A meter time that may also be absent, in 6 bytes (R190). -/
def firstTimeBytes : Option (Option MeterTime) → List Byte
  | none => absentBytes 6
  | some t => 0x00 :: meterTimeBytes t

/-- The position of a kind in Table 8-2. -/
def logKindCode : LogData → Nat
  | .tamper .. => 0
  | .tamperInService .. => 1
  | .tamperCleared .. => 2
  | .relay .. => 3
  | .relayFault .. => 4
  | .codeAccepted .. => 5
  | .creditState .. => 6
  | .emergencyTaken .. => 7
  | .lockout .. => 8
  | .loadTrip .. => 9
  | .timeSet .. => 10
  | .daysForgone .. => 11
  | .tariffActivated .. => 12
  | .testEnd .. => 13
  | .powerFail => 14
  | .powerReturn => 15
  | .accountLost => 16
  | .accountRestored .. => 17
  | .accountCleared .. => 18
  | .accountLimit .. => 19
  | .configChanged .. => 20

/-- data1 and data2 in six bytes each (R193). -/
def logDataBytes : LogData → List Byte × List Byte
  | .tamper s detail => (beBytes 6 (sourceNumber s), optionalBytes 6 (detail.map (·.toNat)))
  | .tamperInService s n => (beBytes 6 (sourceNumber s), beBytes 6 n)
  | .tamperCleared p u => (beBytes 6 p, beBytes 6 u)
  | .relay st r => (beBytes 6 (relayCode st), beBytes 6 (reasonsCode r))
  | .relayFault c t => (beBytes 6 (faultCode c), beBytes 6 (positionCode t))
  | .codeAccepted c v => (beBytes 6 c, beBytes 6 v)
  | .creditState st b => (beBytes 6 (creditCode st), signedBytes 6 b)
  | .emergencyTaken e b => (beBytes 6 e, signedBytes 6 b)
  | .lockout m => (beBytes 6 m, absentBytes 6)
  | .loadTrip s w => (beBytes 6 s, beBytes 6 w)
  | .timeSet old new => (0x00 :: meterTimeBytes old, 0x00 :: meterTimeBytes (some new))
  | .daysForgone n c => (beBytes 6 n, beBytes 6 c)
  | .tariffActivated g day minute => (beBytes 6 g, [0x00, 0x00] ++ beBytes 2 day ++ beBytes 2 minute)
  | .testEnd total c => (beBytes 6 total, beBytes 6 (testCauseCode c))
  | .powerFail => (absentBytes 6, absentBytes 6)
  | .powerReturn => (absentBytes 6, absentBytes 6)
  | .accountLost => (absentBytes 6, absentBytes 6)
  | .accountRestored b debt => (signedBytes 6 b, beBytes 6 debt)
  | .accountCleared b debt => (signedBytes 6 b, beBytes 6 debt)
  | .accountLimit n why => (beBytes 6 n, beBytes 6 (debitCode why))
  | .configChanged item index value =>
    (beBytes 6 (configCode item * 16 + index), match value with | none => absentBytes 6 | some v => signedBytes 6 v)

/-- A delivered log record, 22 bytes (Table 11-5). -/
def recordBytes (r : LogRecord) : List Byte :=
  beBytes 4 r.number ++ meterTimeBytes r.time ++ nameByte (logKindCode r.data) ++ (logDataBytes r.data).1
    ++ (logDataBytes r.data).2

/-! ### Characters on a line (R93, R179) -/

/-- The bits of one character after its start bit: eight data bits in the order sent, the parity bit, and whether the
stop bit is at the idle level (R93). When a receiver samples them is timing (log 45). -/
structure LineCharacter where
  data : Vector Bool 8
  parity : Bool
  stopIdle : Bool
deriving DecidableEq, Repr

/-- What a receiver takes a character as (R93). -/
inductive Judged
  | good (c : Byte)
  | damaged (e : CharError)
deriving DecidableEq, Repr

/-- The number of ones among bits is odd (R93). -/
def oddOnes (bits : List Bool) : Bool := bits.foldl xor false

/-- The character that eight data bits carry, the first sent least significant (R93). -/
def carried (data : Vector Bool 8) : Byte := BitVec.ofNat 8 (data.toList.foldr (fun b n => b.toNat + 2 * n) 0)

/-- A character as the part sends it: data least significant bit first, even parity, an idle stop bit (R93). -/
def sentCharacter (c : Byte) : LineCharacter :=
  let data := Vector.ofFn fun i : Fin 8 => c.getLsbD i.val
  { data := data, parity := oddOnes data.toList, stopIdle := true }

/-- A receiver judges a character: without an idle stop bit a framing error alone, with one and odd ones a parity error,
else good (R93). -/
def judgeCharacter (x : LineCharacter) : Judged :=
  if !x.stopIdle then .damaged .framing
  else if oddOnes (x.data.toList ++ [x.parity]) then .damaged .parity
  else .good (carried x.data)

/-! ### Frames (R164, R191, R192) -/

/-- A character frame: start, kind, length, payload, check (R95, R191). -/
def characterFrame (kind : Byte) (payload : List Byte) : List Byte :=
  let body := kind :: BitVec.ofNat 8 payload.length :: payload
  Config.startCharacter :: body ++ [checkByte body]

/-- A meter host request frame: code, length, parameters, check (R163). -/
def requestFrame (code : Byte) (parameters : List Byte) : List Byte :=
  let body := code :: BitVec.ofNat 8 parameters.length :: parameters
  body ++ [checkByte body]

/-- Whether a meter host frame is well formed (R163). -/
def wellFormedRequest : List Byte → Bool
  | code :: length :: rest =>
    decide (length.toNat ≤ Config.hostParameters) && decide (rest.length = length.toNat + 1)
      && sumsToZero (code :: length :: rest)
  | _ => false

/-! ### Digits (R65, R72, R184) -/

/-- The digit a byte carries, if it lies in 0 to 9. -/
def digitOf (b : Byte) : Option Digit := if h : b.toNat < 10 then some ⟨b.toNat, h⟩ else none

/-- The digits bytes carry, if each lies in 0 to 9. -/
def digitsOf : List Byte → Option (List Digit)
  | [] => some []
  | b :: rest =>
    match digitOf b, digitsOf rest with
    | some d, some ds => some (d :: ds)
    | _, _ => none

/-- The 24 digits of a SUBMIT_CODE request (R72). -/
def codeOf (parameters : List Byte) : Option (List Digit) :=
  if parameters.length = Config.codeDigits then digitsOf parameters else none

/-- Digits as bytes (R190). -/
def digitBytes (digits : List Digit) : List Byte := digits.map fun d => BitVec.ofNat 8 d.val

/-! ### The tariff record in frames (R194) -/

/-- A field of `width` bits that starts `start` bits into a run of `bits` bits, most significant bit first. -/
def packedField (run bits start width : Nat) : Nat := run / 2 ^ (bits - start - width) % 2 ^ width

/-- `n` switch list entries of a packed tariff, from bit `start` on (Table 11-6). -/
def packedEntries (run bits : Nat) : Nat → Nat → List SwitchEntry
  | _, 0 => []
  | start, n + 1 =>
    { minute := packedField run bits start 11, band := packedField run bits (start + 11) 2 }
      :: packedEntries run bits (start + 13) n

/-- The tariff that parameters carry, if their count is the form's for the entry counts they carry (R194). -/
def packedTariff (parameters : List Byte) : Option Tariff :=
  let bits := 8 * parameters.length
  let run := beNat parameters
  let w := packedField run bits 138 4
  let r := packedField run bits 142 4
  if 146 ≤ bits ∧ parameters.length = (146 + 13 * (w + r) + 7) / 8 then
    some
      { prices := #v[packedField run bits 0 20, packedField run bits 20 20, packedField run bits 40 20,
          packedField run bits 60 20],
        standing := packedField run bits 80 24,
        restMask := packedField run bits 104 7,
        activationDay := packedField run bits 111 16,
        activationMinute := packedField run bits 127 11,
        workList := packedEntries run bits 146 w,
        restList := packedEntries run bits (146 + 13 * w) r }
  else none

/-- Whether a switch list ascends strictly by minute (R55). -/
def ascending : List SwitchEntry → Bool
  | a :: b :: rest => decide (a.minute < b.minute) && ascending (b :: rest)
  | _ => true

/-- Whether a switch list is valid (R55). -/
def validList (l : List SwitchEntry) : Bool :=
  decide (l.length ≤ Config.listTop) && l.all (fun e => decide (e.minute ≤ 1439) && decide (e.band ≤ 3)) && ascending l

/-- Whether a tariff record is valid (R55). -/
def validTariff (t : Tariff) : Bool :=
  t.prices.toList.all (fun p => decide (p ≤ Config.priceTop)) && decide (t.standing ≤ Config.amountTop)
    && validList t.workList && validList t.restList && decide (t.restMask ≤ 127)
    && decide (t.activationDay ≤ Config.lastDay) && decide (t.activationMinute ≤ 1439)

/-- The digest fields of a switch list: 16 positions (R60). -/
def digestEntries (l : List SwitchEntry) : List Nat :=
  (l.map (fun (e : SwitchEntry) => (e.minute + 1) * 10 + e.band) ++ List.replicate 16 0).take 16

/-- The 41 fields of the digest (Table 3-4). -/
def digestFields (t : Tariff) : List Nat :=
  t.prices.toList ++ [t.standing] ++ digestEntries t.workList ++ digestEntries t.restList
    ++ [t.restMask, t.activationDay, t.activationMinute, 1]

/-- The sum of j times the j-th field, the first field counted as `j`. -/
def weightedSum : Nat → List Nat → Nat
  | _, [] => 0
  | j, f :: rest => j * f + weightedSum (j + 1) rest

/-- The digest of a tariff record (R60). -/
def tariffDigest (t : Tariff) : Nat := weightedSum 1 (digestFields t) % Config.digestModulus

/-- Eight entry slots of a reported switch list; unused slots are 0xFF (R194). -/
def entrySlots (l : List SwitchEntry) : List (List Byte) :=
  (l.map (fun (e : SwitchEntry) => beBytes 2 e.minute ++ beBytes 1 e.band) ++ List.replicate 8 (absentBytes 3)).take 8

/-- A reported tariff up to the end of the work-day slots: page 0 at the service port (R194). -/
def tariffPage0 (t : Tariff) : List Byte :=
  (t.prices.toList.map (beBytes 3)).flatten ++ beBytes 3 t.standing ++ beBytes 1 t.restMask
    ++ beBytes 2 t.activationDay ++ beBytes 2 t.activationMinute ++ beBytes 1 t.workList.length
    ++ (entrySlots t.workList).flatten

/-- The rest of a reported tariff: page 1 at the service port (R194). -/
def tariffPage1 (t : Tariff) (confirmed : Option Bool) : List Byte :=
  beBytes 1 t.restList.length ++ (entrySlots t.restList).flatten ++ beBytes 5 (tariffDigest t)
    ++ (match confirmed with | none => absentBytes 1 | some c => yesNo c)

/-! ### Pages (R180) -/

/-- The pages that fields fill: as many whole fields as fit in 60 bytes each, begun with `page` (R180). -/
def pagesFrom : List Byte → List (List Byte) → List (List Byte)
  | page, [] => [page]
  | page, field :: rest =>
    if page.length + field.length ≤ Config.pageBytes then pagesFrom (page ++ field) rest
    else page :: pagesFrom field rest

/-- The data of one page of a paged read: page number, page count, fields; none at or above the count (R180, R191). -/
def pageOf (fields : List (List Byte)) (page : Nat) : Option (List Byte) :=
  let all := pagesFrom [] fields
  match all[page]? with
  | none => none
  | some bytes => some (beBytes 1 page ++ beBytes 1 all.length ++ bytes)

end Sys2Proof.Machine
end

