-- ==== Sys2Proof/Decode.lean ====
section
/-! DEFINITION. What bytes and bits at a port spell. No row of spec/opcode_table.json gives bits, so no word spells
a command (log 1). A character's bits on a line, a write transaction at the meter host port, a frame on the customer
link and a frame at the service port each spell one command, by the codes and the layouts of chapter 11; the
encoders write them (R93, R163, R191, R192). -/

namespace Sys2Proof

/-- The command a word spells by the table's bits: the table gives no row any (log 1). -/
def decodeTableWord (_nbits _w : Nat) : Option Instr := none

/-! ### The meter host port (R163, R192) -/

/-- The request of a code with its parameters, in the order of Table 9-1 (R192). -/
def hostRequest (code : Byte) (p : List Byte) : Instr :=
  match code.toNat with
  | 0x01 => .getStatus p
  | 0x02 => .getAccount p
  | 0x03 => .getTariff p
  | 0x04 => .getDemand p
  | 0x05 => .getTamper p
  | 0x06 => .getRelayFault p
  | 0x07 => .hostPutPendingTariff p
  | 0x08 => .hostCancelPending p
  | 0x09 => .hostSubmitCode p
  | 0x0A => .getCodeResult p
  | 0x0B => .hostSetTime p
  | 0x0C => .remoteHold p
  | 0x0D => .remoteRelease p
  | 0x0E => .reportMetrologyTamper p
  | 0x0F => .hostReadLog p
  | 0x10 => .hostSeekOldest p
  | 0x11 => .hostSeekNewest p
  | 0x12 => .mark p
  | 0x13 => .returnToMark p
  | 0x14 => .getNotices p
  | 0x15 => .setNoticeEnable p
  | 0x16 => .hostRestart p
  | _ => .hostUnknownRequest code

/-- The command of a write transaction's bytes; one that carried no byte is no arrival (R163). -/
def hostCommand (bytes : List Byte) : Option Instr :=
  match bytes with
  | [] => none
  | code :: rest =>
    if Machine.wellFormedRequest bytes then some (hostRequest code (rest.drop 1).dropLast) else some .hostBadFrame

/-- The code and the parameters of a meter host request (R192). -/
def hostParts : Instr → Option (Byte × List Byte)
  | .getStatus p => some (0x01, p)
  | .getAccount p => some (0x02, p)
  | .getTariff p => some (0x03, p)
  | .getDemand p => some (0x04, p)
  | .getTamper p => some (0x05, p)
  | .getRelayFault p => some (0x06, p)
  | .hostPutPendingTariff p => some (0x07, p)
  | .hostCancelPending p => some (0x08, p)
  | .hostSubmitCode p => some (0x09, p)
  | .getCodeResult p => some (0x0A, p)
  | .hostSetTime p => some (0x0B, p)
  | .remoteHold p => some (0x0C, p)
  | .remoteRelease p => some (0x0D, p)
  | .reportMetrologyTamper p => some (0x0E, p)
  | .hostReadLog p => some (0x0F, p)
  | .hostSeekOldest p => some (0x10, p)
  | .hostSeekNewest p => some (0x11, p)
  | .mark p => some (0x12, p)
  | .returnToMark p => some (0x13, p)
  | .getNotices p => some (0x14, p)
  | .setNoticeEnable p => some (0x15, p)
  | .hostRestart p => some (0x16, p)
  | _ => none

/-- The write transaction of a meter host request (R163). -/
def hostEncode (i : Instr) : Option (List Byte) := (hostParts i).map fun q => Machine.requestFrame q.1 q.2

/-! ### Characters (R93, R179) -/

/-- The command of a character whose stop bit has ended on the running customer link (R93, R95, R96). -/
def linkTakes (x : Machine.LineCharacter) : Instr :=
  match Machine.judgeCharacter x with
  | .good c => .linkGoodCharacter c
  | .damaged e => .linkDamagedCharacter e

/-- The command of a character whose stop bit has ended at the running service port (R93, R179). -/
def serviceTakes (x : Machine.LineCharacter) : Instr :=
  match Machine.judgeCharacter x with
  | .good c => .serviceGoodCharacter c
  | .damaged _ => .serviceDamagedCharacter

/-! ### Character frames (R95, R191) -/

/-- The kind and the payload of the characters of one whole and valid frame (R95). -/
def frameOf : List Byte → Option (Byte × List Byte)
  | start :: kind :: length :: rest =>
    if start = Config.startCharacter ∧ length.toNat ≤ Config.framePayload ∧ rest.length = length.toNat + 1
        ∧ Machine.sumsToZero (kind :: length :: rest) = true then
      some (kind, rest.dropLast)
    else none
  | _ => none

/-! ### The customer link (R191) -/

/-- The command of a valid frame on the customer link (R97, R191). -/
def linkCommand (kind : Byte) (payload : List Byte) : Instr :=
  match payload with
  | [c] =>
    if kind = Config.kindKey then
      if h : c.toNat < 10 then .digitKey ⟨c.toNat, h⟩
      else if c = 0x0A then .backKey
      else if c = 0x0B then .enterKey
      else if c = 0x0C then .emergencyKey
      else if c = 0x0D then .reconnectKey
      else if c = 0x0E then .infoKey
      else .linkOtherFrame kind payload
    else .linkOtherFrame kind payload
  | [ciuCase, version] =>
    if kind = Config.kindPresence ∧ ciuCase = 0x00 then .presenceFrame false version
    else if kind = Config.kindPresence ∧ ciuCase = 0x01 then .presenceFrame true version
    else .linkOtherFrame kind payload
  | _ => .linkOtherFrame kind payload

/-- The command of the characters of one frame on the customer link. -/
def linkDecode (characters : List Byte) : Option Instr := (frameOf characters).map fun q => linkCommand q.1 q.2

/-- The kind and the payload of a frame command of the customer link (R191). -/
def linkParts : Instr → Option (Byte × List Byte)
  | .digitKey digit => some (Config.kindKey, [BitVec.ofNat 8 digit.val])
  | .backKey => some (Config.kindKey, [0x0A])
  | .enterKey => some (Config.kindKey, [0x0B])
  | .emergencyKey => some (Config.kindKey, [0x0C])
  | .reconnectKey => some (Config.kindKey, [0x0D])
  | .infoKey => some (Config.kindKey, [0x0E])
  | .presenceFrame caseOpen version => some (Config.kindPresence, [if caseOpen then 0x01 else 0x00, version])
  | .linkOtherFrame kind payload => some (kind, payload)
  | _ => none

/-- The characters of a frame command of the customer link (R191). -/
def linkEncode (i : Instr) : Option (List Byte) := (linkParts i).map fun q => Machine.characterFrame q.1 q.2

/-! ### The service port (R191) -/

/-- The command of a valid frame at the service port, in the order of Table 10-2 (R191). -/
def serviceCommand (kind : Byte) (p : List Byte) : Instr :=
  match kind.toNat with
  | 0x40 => .readStatus p
  | 0x41 => .readAccount p
  | 0x42 => .readTariff p
  | 0x43 => .readDemand p
  | 0x44 => .readTamper p
  | 0x45 => .readLink p
  | 0x46 => .readEnergy p
  | 0x47 => .readCodeList p
  | 0x48 => .readCodeResult p
  | 0x49 => .serviceReadLog p
  | 0x4A => .serviceSeekOldest p
  | 0x4B => .serviceSeekNewest p
  | 0x4C => .serviceSubmitCode p
  | 0x4D => .commission p
  | 0x4E => .writeConfig p
  | 0x4F => .writeFunctionTable p
  | 0x50 => .serviceSetTime p
  | 0x51 => .servicePutPendingTariff p
  | 0x52 => .serviceCancelPending p
  | 0x53 => .serviceHold p
  | 0x54 => .serviceRelease p
  | 0x55 => .retryRelay p
  | 0x56 => .testStart p
  | 0x57 => .testEnd p
  | 0x58 => .restoreAccount p
  | 0x59 => .clearLinkCounts p
  | 0x5A => .serviceRestart p
  | _ => .serviceUnknownRequest kind p

/-- The command of the characters of one frame at the service port. -/
def serviceDecode (characters : List Byte) : Option Instr :=
  (frameOf characters).map fun q => serviceCommand q.1 q.2

/-- The kind and the parameters of a request at the service port (R191). -/
def serviceParts : Instr → Option (Byte × List Byte)
  | .readStatus p => some (0x40, p)
  | .readAccount p => some (0x41, p)
  | .readTariff p => some (0x42, p)
  | .readDemand p => some (0x43, p)
  | .readTamper p => some (0x44, p)
  | .readLink p => some (0x45, p)
  | .readEnergy p => some (0x46, p)
  | .readCodeList p => some (0x47, p)
  | .readCodeResult p => some (0x48, p)
  | .serviceReadLog p => some (0x49, p)
  | .serviceSeekOldest p => some (0x4A, p)
  | .serviceSeekNewest p => some (0x4B, p)
  | .serviceSubmitCode p => some (0x4C, p)
  | .commission p => some (0x4D, p)
  | .writeConfig p => some (0x4E, p)
  | .writeFunctionTable p => some (0x4F, p)
  | .serviceSetTime p => some (0x50, p)
  | .servicePutPendingTariff p => some (0x51, p)
  | .serviceCancelPending p => some (0x52, p)
  | .serviceHold p => some (0x53, p)
  | .serviceRelease p => some (0x54, p)
  | .retryRelay p => some (0x55, p)
  | .testStart p => some (0x56, p)
  | .testEnd p => some (0x57, p)
  | .restoreAccount p => some (0x58, p)
  | .clearLinkCounts p => some (0x59, p)
  | .serviceRestart p => some (0x5A, p)
  | .serviceUnknownRequest kind p => some (kind, p)
  | _ => none

/-- The characters of a request at the service port (R191). -/
def serviceEncode (i : Instr) : Option (List Byte) := (serviceParts i).map fun q => Machine.characterFrame q.1 q.2

end Sys2Proof
end

