-- ==== Sys2Proof/Machine/Flags.lean ====
section
/-! DEFINITION. Every condition the part computes from what it holds: which parts run, time boundaries, the band, the
credit state and reason, emergency availability, the tamper reason and the code block, the auxiliary position, the
displayed fields, and the output lines (NOTICE, the coils, the lamps). -/

namespace Sys2Proof.Machine

/-! ### Power (R2, R93, R162, R179) -/

/-- Pulse Intake, the customer link and both ports run in MAINS outside INITIALIZING. -/
def running (d : Device) : Bool := d.power.supply == .mains && d.power.part != .initializing

/-- The always-on domain has supply (R188). -/
def alive (d : Device) : Bool := d.power.supply != .none

/-! ### Meter time (R46) -/

/-- Minute of day. -/
def minuteOf (t : MeterTime) : Nat := t.second / 60

/-- Weekday, 0 for Monday. -/
def weekdayOf (t : MeterTime) : Nat := t.day % 7

/-- Meter time counted in seconds (R49). -/
def timeSeconds (t : MeterTime) : Nat := t.day * Config.daySeconds + t.second

/-- The time of a record or a fault: meter time, or the marker UNSET (R154). -/
def timeMark (d : Device) : Option MeterTime := if d.clock.isSet then some d.clock.now else none

/-- Whether a weekday is in a seven-day mask (0.4.2). -/
def inMask (mask weekday : Nat) : Bool := mask.testBit weekday

/-! ### Band (R57) -/

/-- The band of a switch list at a minute: the last entry at or before it, else the last entry, else 0. -/
def bandOfList (l : List SwitchEntry) (minute : Nat) : Nat :=
  match (l.filter fun e => decide (e.minute ≤ minute)).getLast? with
  | some e => e.band
  | none =>
    match l.getLast? with
    | some e => e.band
    | none => 0

/-- The band in force (R57). -/
def bandInForce (d : Device) : Nat :=
  if d.clock.isSet then
    let t := d.tariffs.active
    bandOfList (if inMask t.restMask (weekdayOf d.clock.now) then t.restList else t.workList) (minuteOf d.clock.now)
  else 0

/-- The price of a band in the active tariff (R12). -/
def priceOf (d : Device) (band : Nat) : Nat := d.tariffs.active.prices.toList.getD band 0

/-! ### Credit (R28, R32, R36, R38, R40) -/

/-- The credit state of a balance (R28). -/
def creditStateOf (balance : Int) (lowLevel : Nat) : CreditState :=
  if balance ≤ 0 then .exhausted else if balance < lowLevel then .low else .inCredit

/-- Whether a friendly window entry covers a minute of a weekday (R36). -/
def windowCovers (w : FriendlyWindow) (weekday minute : Nat) : Bool :=
  if w.start = w.finish then false
  else if w.start < w.finish then inMask w.mask weekday && decide (w.start ≤ minute) && decide (minute < w.finish)
  else (inMask w.mask weekday && decide (w.start ≤ minute))
    || (inMask w.mask ((weekday + 6) % 7) && decide (minute < w.finish))

/-- The meter is inside a friendly window (R36). -/
def insideWindow (d : Device) : Bool :=
  d.clock.isSet && d.settings.windows.toList.any fun w => windowCovers w (weekdayOf d.clock.now) (minuteOf d.clock.now)

/-- The CREDIT reason is present (R38). -/
def creditReasonOf (d : Device) : Bool :=
  d.power.part == .inService && d.account.creditState == .exhausted
    && (!insideWindow d || decide (d.account.balance ≤ d.settings.friendlyFloor))

/-- The ACCOUNT reason is present (R40). -/
def accountReasonOf (d : Device) : Bool := d.power.part == .uncommissioned || d.power.part == .accountLost

/-- Emergency credit is available (R32). -/
def emergencyAvailable (d : Device) : Bool :=
  d.power.part == .inService && decide (0 < d.settings.emergencyAmount) && decide (d.account.emergency = 0)
    && decide (d.account.balance < d.settings.emergencyThreshold)

/-! ### Tamper (R139, R147, R148, R156) -/

/-- The entry of a source. -/
def sourceEntry (d : Device) (s : Source) : SourceEntry := d.tamper.sources[sourceNumber s]

/-- The TAMPER reason is present (R147). -/
def tamperReasonOf (d : Device) : Bool := d.tamper.sources.toList.any fun e => e.latched && e.action != .log

/-- The code block is in force (R148). -/
def codeBlock (d : Device) : Bool := d.tamper.sources.toList.any fun e => e.latched && e.action == .openBlock

/-- Any source is latched. -/
def anyLatched (d : Device) : Bool := d.tamper.sources.toList.any (·.latched)

/-- Whether a raw level is active under an entry's polarity (R137). -/
def levelActive (e : LineEntry) (raw : Level) : Bool := (raw == .high) == e.activeHigh

/-- A function is active while a line that carries it is filtered ACTIVE (R139). -/
def functionActive (d : Device) (f : LineFunction) : Bool :=
  (List.finRange 6).any fun l => d.tamper.table[l].function == f && d.tamper.lines[l].filtered

/-- Whether a line carries a function. -/
def functionAssigned (d : Device) (f : LineFunction) : Bool := d.tamper.table.toList.any (·.function == f)

/-- A function of the always-on domain (R138). -/
def alwaysOn : LineFunction → Bool
  | .case | .terminalCover | .magnet => true
  | _ => false

/-- A function sensed from mains (R138). -/
def mainsFunction : LineFunction → Bool
  | .auxContact | .reconnectButton => true
  | _ => false

/-- Whether a line is sensed (R138). -/
def sensed (d : Device) (l : Line) : Bool :=
  (alwaysOn d.tamper.table[l].function && alive d) || (mainsFunction d.tamper.table[l].function && running d)

/-- The auxiliary position, if a line carries AUX_CONTACT (R114). -/
def auxPosition (d : Device) : Option Position :=
  if functionAssigned d .auxContact then some (if functionActive d .auxContact then .closed else .open) else none

/-- Whether a log record is the latching record of a latched source (R156). -/
def protectedRecord (sources : Vector SourceEntry 8) (r : LogRecord) : Bool :=
  sources.toList.any fun e => e.latched && e.record == some r.number

/-! ### Relay (R114, R121) -/

/-- The open-reason set is empty. -/
def Reasons.isEmpty (r : Reasons) : Bool := r == noReasons

/-- Whether a reason is in the set. -/
def Reasons.has (r : Reasons) : Reason → Bool
  | .credit => r.credit
  | .tamper => r.tamper
  | .load => r.load
  | .remote => r.remote
  | .service => r.service
  | .account => r.account

/-- The set with a reason added or removed (R111). -/
def Reasons.put (r : Reasons) (which : Reason) (present : Bool) : Reasons :=
  match which with
  | .credit => { r with credit := present }
  | .tamper => { r with tamper := present }
  | .load => { r with load := present }
  | .remote => { r with remote := present }
  | .service => { r with service := present }
  | .account => { r with account := present }

/-- The name of a relay state (R114). No reader asks for it while none is held (log 37). -/
def relayName : RelayState → RelayName
  | .unheld => .open
  | .closed => .closed
  | .open => .open
  | .reconnectReady => .reconnectReady
  | .opening _ => .opening
  | .closing _ => .closing
  | .stuck _ => .stuck

/-- The position of a settled state (R114). -/
def settledPosition : RelayState → Option Position
  | .closed => some .closed
  | .open => some .open
  | .reconnectReady => some .open
  | _ => none

/-- The settled state of a position (R119, R122, R127). -/
def settledState (p : Position) (r : Reasons) : RelayState :=
  match p with
  | .closed => .closed
  | .open => if r.isEmpty then .reconnectReady else .open

/-- The position watch runs: a settled state, an auxiliary position that differs, in MAINS (R121, R126). -/
def watchRunning (d : Device) : Bool :=
  running d &&
    match settledPosition d.relay.state, auxPosition d with
    | some p, some a => a != p
    | _, _ => false

/-- OPEN_DRIVE is raised (R115). -/
def openDrive (d : Device) : Bool :=
  match d.relay.state with
  | .opening a => a.driving
  | _ => false

/-- CLOSE_DRIVE is raised (R115). -/
def closeDrive (d : Device) : Bool :=
  match d.relay.state with
  | .closing a => a.driving
  | _ => false

/-! ### Notices and lamps (R173, R134) -/

/-- Whether a notice is in a set. -/
def hasNotice (s : NoticeSet) (n : Notice) : Bool := s.getLsbD (noticeBit n)

/-- NOTICE is asserted (pulled low) (R173). -/
def noticeLine (d : Device) : Bool := running d && (d.host.notices &&& d.host.enabled) != 0

/-- What a lamp shows; the blinks are 1 Hz and 4 Hz (R134, log 36). -/
inductive Lamp
  | off
  | on
  | slow
  | fast
deriving DecidableEq, Repr

/-- The CREDIT lamp (Table 6-9). -/
def lampCredit (d : Device) : Lamp :=
  if !running d then .off
  else if accountReasonOf d then .off
  else match d.account.creditState with
    | .exhausted => .fast
    | .low => .slow
    | .inCredit => if 0 < d.account.emergency then .slow else .on

/-- The SUPPLY lamp (Table 6-9). -/
def lampSupply (d : Device) : Lamp :=
  if !running d then .off
  else match relayName d.relay.state with
    | .closed => .on
    | .reconnectReady => .fast
    | .opening | .closing | .stuck => .slow
    | .open => .off

/-- The TAMPER lamp (Table 6-9). -/
def lampTamper (d : Device) : Lamp :=
  if !running d then .off
  else if anyLatched d then .on
  else if d.intake.testActive then .slow
  else .off

/-! ### The displayed fields (R98, R99, R106) -/

/-- Info page data, placed in five bytes (Table 11-4, R106). -/
def pageData (d : Device) : List Byte :=
  match d.keypad.page with
  | 1 => beBytes 4 d.account.debt ++ beBytes 1 d.account.recoveryPercent
  | 2 => beBytes 1 (bandInForce d) ++ beBytes 3 (priceOf d (bandInForce d)) ++ [0x00]
  | 3 => beBytes 3 d.load.limit ++ [0x00, 0x00]
  | _ => List.replicate 5 0x00

/-- The last keypad outcome in two bytes (Table 11-4). -/
def outcomeBytes : Option (Result × KeyRequest) → List Byte
  | none => absentBytes 2
  | some (r, q) => beBytes 1 (resultCode r) ++ beBytes 1 (keyRequestCode q)

/-- The STATUS payload before its meter time (Table 11-4). -/
def statusHead (d : Device) : List Byte :=
  signedBytes 4 d.account.balance ++ nameByte (creditCode d.account.creditState) ++ beBytes 3 d.account.emergency
    ++ yesNo (emergencyAvailable d) ++ nameByte (relayCode (relayName d.relay.state))
    ++ beBytes 1 (reasonsCode d.relay.reasons) ++ beBytes 1 d.keypad.buffer.length
    ++ yesNo (decide (0 < d.keypad.stepTimer)) ++ outcomeBytes d.keypad.outcome ++ beBytes 1 d.keypad.lockout

/-- The STATUS payload after its meter time (Table 11-4). -/
def statusTail (d : Device) : List Byte := beBytes 1 d.keypad.page ++ pageData d

/-- The payload of a STATUS frame begun now (R98, Table 11-4). -/
def statusPayload (d : Device) : List Byte := statusHead d ++ meterTimeBytes (timeMark d) ++ statusTail d

/-- The displayed fields other than meter time, whose change sends a STATUS frame (R99, case 2). -/
def displayed (d : Device) : List Byte := statusHead d ++ statusTail d

end Sys2Proof.Machine
end

