-- ==== Sys2Proof/Machine/Ops.lean ====
section
/-! DEFINITION. The shared operations of the blocks: raising a notice, writing a log record, the open-reason set and the
relay, tamper detections, the account, day processing and activation, setting time, the Load Monitor, ending a meter
test. Each is what one rule says the owning block does; the commands are built from them. -/

namespace Sys2Proof.Machine

/-! ### Notices and the Event Log -/

/-- A block raises a notice (R172). -/
def raiseNotice (n : Notice) (d : Device) : Device :=
  d.setHost { d.host with notices := d.host.notices ||| noticeSet n }

/-- Room for one more record: of 64 held, the lowest-numbered unprotected one goes (R155, step 3). -/
def makeRoom (sources : Vector SourceEntry 8) (records : List LogRecord) : List LogRecord :=
  if records.length < Config.logPlaces then records else records.eraseP fun r => !protectedRecord sources r

/-- A writer hands a record to the Event Log (R155); its time is meter time at the write (R154). -/
def addRecord (data : LogData) (d : Device) : Device :=
  if Config.numberEnd ≤ d.log.next then d
  else
    raiseNotice .logNew
      (d.setLog
        { d.log with
          records := makeRoom d.tamper.sources d.log.records
            ++ [{ number := d.log.next, time := timeMark d, data := data }],
          next := d.log.next + 1 })

/-! ### The relay -/

/-- A drive start: attempt 1 or 2 of an operation toward a target (R115, step 1). -/
def startAttempt (target : Position) (second : Bool) (d : Device) : Device :=
  let aux := auxPosition d
  let attempt : Attempt :=
    { second := second, auxAtStart := aux.isSome, driving := true, confirmed := aux == some target, waiting := false }
  d.setRelay
    { d.relay with state := match target with | .open => .opening attempt | .closed => .closing attempt }

/-- CLOSED is entered: the energy-while-open accumulator becomes 0 (R10). -/
def zeroOpenEnergy (d : Device) : Device := d.setIntake { d.intake with openEnergy := 0 }

/-- An entry into CLOSED, OPEN, RECONNECT_READY or STUCK, with its record and notice (R119, R125). -/
def enterRelay (st : RelayState) (d : Device) : Device :=
  let entered := d.setRelay { d.relay with state := st }
  raiseNotice .relay
    (addRecord (.relay (relayName st) d.relay.reasons) (if st = .closed then zeroOpenEnergy entered else entered))

/-- The reaction to the open-reason set (Table 6-3). In BATTERY, and while no relay state is held, there is none. -/
def reactToReasons (d : Device) : Device :=
  if running d then
    match d.relay.state with
    | .closed => if d.relay.reasons.isEmpty then d else startAttempt .open false d
    | .open => if d.relay.reasons.isEmpty then enterRelay .reconnectReady d else d
    | .reconnectReady => if d.relay.reasons.isEmpty then d else enterRelay .open d
    | _ => d
  else d

/-- The open-reason set becomes `r`: an event only if it changes (R111, R118). -/
def setReasons (r : Reasons) (d : Device) : Device :=
  if r = d.relay.reasons then d else reactToReasons (d.setRelay { d.relay with reasons := r })

/-- An owner hands the presence or absence of its reason (R111). -/
def setReason (which : Reason) (present : Bool) (d : Device) : Device :=
  setReasons (d.relay.reasons.put which present) d

/-- The relay settles in a position: the last confirmed position becomes it, the settled state is entered, and reasons
that stand at a CLOSED begin an open operation (R115 step 4, R119, R122, R127). -/
def settle (p : Position) (d : Device) : Device :=
  reactToReasons
    (enterRelay (settledState p d.relay.reasons) (d.setRelay { d.relay with lastConfirmed := p }))

/-- A relay fault: the fault record, then the RELAY_FAULT record (R124). -/
def recordFault (cause : FaultCause) (target : Position) (d : Device) : Device :=
  let fault : RelayFault :=
    match d.relay.fault with
    | none => { cause := cause, time := timeMark d, multiple := false }
    | some f => { f with multiple := true }
  addRecord (.relayFault cause target) (d.setRelay { d.relay with fault := some fault })

/-- The state becomes STUCK with a fault (R117, R121). -/
def goStuck (cause : FaultCause) (target : Position) (d : Device) : Device :=
  enterRelay (.stuck target) (recordFault cause target d)

/-- The state of an operation toward a target. -/
def operationState (target : Position) (a : Attempt) : RelayState :=
  match target with
  | .open => .opening a
  | .closed => .closing a

/-- The auxiliary position reaches the target of an operation: confirmation, late confirmation, settling
(R115 steps 2 and 4, R116). -/
def auxInOperation (target : Position) (a : Attempt) (d : Device) : Device :=
  if auxPosition d = some target then
    if a.waiting then settle target d
    else if a.auxAtStart && !a.confirmed then
      if a.driving then d.setRelay { d.relay with state := operationState target { a with confirmed := true } }
      else settle target d
    else d
  else d

/-- A change of the auxiliary position is an event at the Relay Controller (R114, R115, R116, R122). -/
def auxChanged (before : Option Position) (d : Device) : Device :=
  if auxPosition d = before then d
  else
    match d.relay.state with
    | .opening a => auxInOperation .open a d
    | .closing a => auxInOperation .closed a d
    | .stuck target => if auxPosition d = some target then settle target d else d
    | _ => d

/-- A reconnect press (R120). -/
def reconnectPress (d : Device) : Device :=
  if d.relay.state = .reconnectReady then startAttempt .closed false d else d

/-- The relay state is resolved at mains return and at the end of INITIALIZING (R127). -/
def resolveRelay (d : Device) : Device :=
  match d.relay.state with
  | .stuck target => if auxPosition d = some target then settle target d else d
  | _ => settle ((auxPosition d).getD d.relay.lastConfirmed) d

/-- Any operation in flight is abandoned at mains loss (R126). -/
def abandonOperation (d : Device) : Device :=
  let replaced := settledState d.relay.lastConfirmed d.relay.reasons
  let enter (d : Device) : Device := if replaced = .closed then zeroOpenEnergy d else d
  match d.relay.state with
  | .opening _ => enter (d.setRelay { d.relay with state := replaced })
  | .closing _ => enter (d.setRelay { d.relay with state := replaced })
  | _ => d

/-! ### Tamper -/

/-- The TAMPER reason is evaluated (R147). -/
def evaluateTamper (d : Device) : Device := setReason .tamper (tamperReasonOf d) d

/-- A source's entry takes new contents. -/
def setSource (s : Source) (e : SourceEntry) (d : Device) : Device :=
  d.setTamper { d.tamper with sources := d.tamper.sources.set (sourceNumber s) e }

/-- A count raised by 1, saturating at 255 (R146). -/
def raiseCount (n : Nat) : Nat := if n < 255 then n + 1 else n

/-- A source latches (R146, step 2): time, TAMPER record, notice, and the reason. -/
def latchSource (s : Source) (detail : Option Byte) (d : Device) : Device :=
  let e := sourceEntry d s
  let number := if d.log.next < Config.numberEnd then some d.log.next else none
  let latched : SourceEntry :=
    { e with latched := true, count := raiseCount e.count, firstTime := some (timeMark d), record := number }
  evaluateTamper
    (raiseNotice .tamper (setSource s latched (addRecord (.tamper s detail) d)))

/-- A source exempted while the service window is OPEN (R146, step 1). -/
def exempted (s : Source) (d : Device) : Bool :=
  decide (0 < d.codes.windowMinutes) && (s == .case || s == .terminalCover)

/-- A detection is taken by its source's entry (R146). The detail is METROLOGY's. -/
def detect (s : Source) (detail : Option Byte) (d : Device) : Device :=
  let e := sourceEntry d s
  let counted : SourceEntry := { e with count := raiseCount e.count }
  if exempted s d then addRecord (.tamperInService s counted.count) (setSource s counted d)
  else if e.latched then setSource s counted d
  else latchSource s detail d

/-- The sources a CLEAR_TAMPER parameter names (R149). -/
def namedSources (parameter : Nat) : List Source :=
  if parameter = 99 then allSources else (sourceOfNumber parameter).toList

/-- A source is unlatched (R149). -/
def unlatchSource (d : Device) (s : Source) : Device :=
  setSource s { sourceEntry d s with latched := false, firstTime := none, record := none } d

/-- The number of a set of sources: the sum of 2 raised to each source's number (R149). -/
def sourceMask (l : List Source) : Nat := (l.map fun s => 2 ^ (sourceNumber s).val).sum

/-- An accepted CLEAR_TAMPER (R149). -/
def clearTamper (parameter : Nat) (d : Device) : Device :=
  let latched := (namedSources parameter).filter fun s => (sourceEntry d s).latched
  if latched = [] then d
  else
    evaluateTamper
      (raiseNotice .tamper
        (addRecord (.tamperCleared parameter (sourceMask latched)) (latched.foldl unlatchSource d)))

/-! ### The account -/

/-- The credit state is recomputed (R28, R29). -/
def recomputeCreditState (d : Device) : Device :=
  let st := creditStateOf d.account.balance d.settings.lowLevel
  if st = d.account.creditState then d
  else
    raiseNotice .credit
      (addRecord (.creditState st d.account.balance) (d.setAccount { d.account with creditState := st }))

/-- The CREDIT reason is recomputed and handed on; not during INITIALIZING (R38, R39, R40). -/
def recomputeCreditReason (d : Device) : Device :=
  if d.power.part = .initializing then d else setReason .credit (creditReasonOf d) d

/-- The credit state, then the CREDIT reason, after a change of the balance (R26, R31, R34). -/
def recomputeCredit (d : Device) : Device := recomputeCreditReason (recomputeCreditState d)

/-- The ACCOUNT and CREDIT reasons are evaluated together at a change of the part state; the two are one hand-off (R40,
log 14). A change of ACCOUNT's presence raises the ACCOUNT notice. -/
def handAccountReasons (d : Device) : Device :=
  let handed :=
    setReasons { d.relay.reasons with credit := creditReasonOf d, account := accountReasonOf d } d
  if d.relay.reasons.account = accountReasonOf d then handed else raiseNotice .account handed

/-- A lifetime amount raised, rolling over past its top (R23, log 15). -/
def rollLifetime (n k : Nat) : Nat := (n + k) % (Config.lifetimeTop + 1)

/-- An ACCOUNT_LIMIT record for a discarded amount, if there is one (R27, R42). -/
def recordDiscard (excess : Nat) (why : DebitReason) (d : Device) : Device :=
  if 0 < excess then addRecord (.accountLimit excess why) d else d

/-- The account after steps 1 to 4 of the debit rule (R26). -/
def debitedAccount (k : Nat) (a : Account) : Account :=
  let charged := rollLifetime a.charged k
  if -(Config.moneyTop : Int) ≤ a.balance - k then { a with charged := charged, balance := a.balance - k }
  else
    { a with
      charged := charged, balance := -(Config.moneyTop : Int),
      debt := min (a.debt + ((k : Int) - (a.balance + Config.moneyTop)).toNat) Config.moneyTop }

/-- The mills that step 4 of the debit rule discards (R26, R27). -/
def debitExcess (k : Nat) (a : Account) : Nat :=
  if -(Config.moneyTop : Int) ≤ a.balance - k then 0
  else a.debt + ((k : Int) - (a.balance + Config.moneyTop)).toNat - Config.moneyTop

/-- The debit rule (R26). -/
def debit (k : Nat) (why : DebitReason) (d : Device) : Device :=
  if k = 0 then d
  else
    recomputeCredit
      (recordDiscard (debitExcess k d.account) why (d.setAccount (debitedAccount k d.account)))

/-- The emergency repayment of a top-up (R31, step 1). -/
def topUpRepaid (amount : Nat) (a : Account) : Nat := min amount a.emergency

/-- The debt recovery of a top-up (R31, step 3). -/
def topUpRecovered (amount : Nat) (a : Account) : Nat :=
  min ((amount - topUpRepaid amount a) * a.recoveryPercent / 100) a.debt

/-- What a top-up adds to the balance (R31, step 4). -/
def topUpCredited (amount : Nat) (a : Account) : Nat :=
  amount - topUpRepaid amount a - topUpRecovered amount a

/-- The account after steps 1 to 5 of a top-up (R31). -/
def toppedUpAccount (amount : Nat) (a : Account) : Account :=
  { a with
    emergency := a.emergency - topUpRepaid amount a, debt := a.debt - topUpRecovered amount a,
    balance := a.balance + topUpCredited amount a, purchased := rollLifetime a.purchased amount }

/-- A top-up is applied (R31). -/
def topUp (amount : Nat) (d : Device) : Device :=
  recomputeCredit (d.setAccount (toppedUpAccount amount d.account))

/-- The outcome of an emergency take request (Table 2-5). -/
def emergencyOutcome (d : Device) : Result :=
  if d.power.part = .uncommissioned then .notCommissioned
  else if d.power.part = .accountLost then .accountLost
  else if d.settings.emergencyAmount = 0 then .notOffered
  else if 0 < d.account.emergency then .alreadyTaken
  else if (d.settings.emergencyThreshold : Int) ≤ d.account.balance then .notNeeded
  else .accepted

/-- An accepted emergency take (R34). -/
def emergencyTake (d : Device) : Device :=
  let balance := d.account.balance + d.settings.emergencyAmount
  recomputeCredit
    (addRecord (.emergencyTaken d.settings.emergencyAmount balance)
      (d.setAccount { d.account with balance := balance, emergency := d.settings.emergencyAmount }))

/-- An accepted DEBT_SET (R42). -/
def debtSet (value percent : Nat) (d : Device) : Device :=
  recordDiscard (d.account.debt + value - Config.moneyTop) .debtSet
    (d.setAccount
      { d.account with debt := min (d.account.debt + value) Config.moneyTop, recoveryPercent := percent })

/-- An accepted CLEAR_ACCOUNT (R42). -/
def clearAccount (d : Device) : Device :=
  let recorded := addRecord (.accountCleared d.account.balance d.account.debt) d
  raiseNotice .account
    (recomputeCredit
      ((recorded.setAccount { d.account with balance := 0, emergency := 0, debt := 0 }).setResidue 0))

/-! ### Day processing and tariffs -/

/-- A run of day processing (R53). It needs time SET and a last charged day (R52). -/
def dayProcessing (d : Device) : Device :=
  match d.clock.isSet, d.clock.lastCharged with
  | true, some last =>
    let today := d.clock.now.day
    if today ≤ last then d
    else
      let owed := today - last
      let charged := (debit d.tariffs.active.standing .standing)^[min owed Config.chargedDays] d
      let noted :=
        if Config.chargedDays < owed then addRecord (.daysForgone (owed - Config.chargedDays) today) charged
        else charged
      let reversed := noted.setIntake { noted.intake with reverse := 0 }
      reversed.setClock { reversed.clock with lastCharged := some today }
  | _, _ => d

/-- Meter time is at or past a tariff's activation time (R62). -/
def activationDue (t : Tariff) (now : MeterTime) : Bool :=
  decide (t.activationDay < now.day)
    || (t.activationDay == now.day && decide (t.activationMinute ≤ minuteOf now))

/-- The pending tariff is tested for activation, and activated if it is due (R62). -/
def activationTest (d : Device) : Device :=
  match d.tariffs.pending with
  | some p =>
    if p.confirmed && d.clock.isSet && activationDue p.tariff d.clock.now then
      raiseNotice .tariff
        (addRecord (.tariffActivated (tariffDigest p.tariff) p.tariff.activationDay p.tariff.activationMinute)
          (d.setTariffs { active := p.tariff, pending := none }))
    else d
  | none => d

/-- The Time and Tariff Unit's judgement of a confirming code's value (R61). -/
def confirmRefusal (value : Nat) (d : Device) : Option Result :=
  match d.tariffs.pending with
  | none => some .noPending
  | some p => if tariffDigest p.tariff = value then none else some .mismatch

/-- An accepted TARIFF_CONFIRM (R61). -/
def confirmTariff (d : Device) : Device :=
  match d.tariffs.pending with
  | none => d
  | some p =>
    activationTest
      (raiseNotice .tariff (d.setTariffs { d.tariffs with pending := some { p with confirmed := true } }))

/-- PUT_PENDING_TARIFF's effect of a record (R58). -/
def putPending (t : Tariff) (d : Device) : Device :=
  d.setTariffs { d.tariffs with pending := some { tariff := t, confirmed := false } }

/-! ### Load -/

/-- The demand window is zeroed (R128). -/
def zeroDemand (d : Device) : Device := d.setLoad { d.load with slots := Vector.replicate 12 0 }

/-- S, the sum of the twelve slots (R129). -/
def slotSum (l : Load) : Nat := l.slots.toList.sum

/-- A trip time enters the history (R130, step 3). -/
def addTrip (t : Nat) (history : List Nat) : List Nat :=
  (if history.length < Config.tripPlaces then history else history.drop 1) ++ [t]

/-- The backoff a history earns (R130, step 4). -/
def backoffOf (history : List Nat) : Nat :=
  match history with
  | [oldest, _, newest] =>
    if oldest ≤ newest ∧ newest - oldest ≤ Config.tripSpan then Config.longBackoff else Config.shortBackoff
  | _ => Config.shortBackoff

/-- A trip (R130). -/
def loadTrip (d : Device) : Device :=
  let history := addTrip (timeSeconds d.clock.now) d.load.history
  let recorded := addRecord (.loadTrip (slotSum d.load) d.load.limit) (setReason .load true d)
  zeroDemand (recorded.setLoad { recorded.load with history := history, backoff := backoffOf history })

/-- The oldest slot is dropped and a new current slot begins at 0 (R129, step 4). -/
def shiftSlots (l : Load) : Load :=
  { l with slots := Vector.ofFn fun i => if h : i.val + 1 < 12 then l.slots[i.val + 1] else 0 }

/-- A pending load limit becomes the limit (R129, step 1). -/
def takeLimit (l : Load) : Load :=
  match l.pendingLimit with
  | some w => { l with limit := w, pendingLimit := none }
  | none => l

/-- A slot boundary (R129). -/
def slotStep (d : Device) : Device :=
  let taken := d.setLoad (takeLimit d.load)
  let tested :=
    if 0 < taken.load.limit ∧ taken.load.limit < 6 * slotSum taken.load then loadTrip taken else taken
  tested.setLoad (shiftSlots tested.load)

/-- A load limit is written (R132). -/
def writeLimit (w : Nat) (d : Device) : Device :=
  if 0 < w then d.setLoad { d.load with pendingLimit := some w }
  else setReason .load false (d.setLoad { d.load with limit := 0, pendingLimit := none, backoff := 0 })

/-- A charged import quantum enters the current slot (R128). -/
def countDemand (d : Device) : Device :=
  d.setLoad
    { d.load with
      slots := d.load.slots.set 11
        (if d.load.slots[11] < Config.slotTop then d.load.slots[11] + 1 else d.load.slots[11]) }

/-! ### Meter test and service window -/

/-- Meter test mode ends with a cause, if it is active (R18). The test timer stands at the value it had until the next
TEST_START or RESET, as the accumulators do: the spec gives it none after the end (log 43, DESIGN CHOICE). -/
def endTest (cause : TestCause) (d : Device) : Device :=
  if d.intake.testActive then
    addRecord (.testEnd d.intake.testImport.toList.sum cause) (d.setIntake { d.intake with testActive := false })
  else d

/-- The service window becomes CLOSED, and a running meter test ends with cause WINDOW (R90). -/
def closeWindow (d : Device) : Device :=
  endTest .window (d.setCodes { d.codes with windowMinutes := 0 })

/-- A SERVICE_OPEN code's effect (R89). -/
def serviceOpen (minutes : Nat) (d : Device) : Device :=
  if 0 < minutes then d.setCodes { d.codes with windowMinutes := min minutes Config.windowTop }
  else if 0 < d.codes.windowMinutes then closeWindow d
  else d

/-! ### Setting meter time -/

/-- The effects of an accepted SET_TIME that moves meter time to `new` (R51). -/
def applySetTime (new : MeterTime) (d : Device) : Device :=
  let old := timeMark d
  let moved := d.setClock { d.clock with now := new, isSet := true }
  let cleared := zeroDemand (addRecord (.timeSet old new) moved)
  let processed :=
    match old with
    | none => cleared.setClock { cleared.clock with lastCharged := some new.day }
    | some _ => dayProcessing cleared
  recomputeCreditReason (activationTest processed)

/-- The meter time of a count of seconds (R49). -/
def timeOfSeconds (n : Nat) : MeterTime := { day := n / Config.daySeconds, second := n % Config.daySeconds }

/-- The step of a set from the meter host, clamped (R49). -/
def clampedStep (step : Int) : Int := max (-Config.setClamp) (min Config.setClamp step)

/-- Meter time moved by a step, no later than its maximum and no earlier than its minimum (R49). -/
def movedTime (now : MeterTime) (step : Int) : MeterTime :=
  let last := Config.lastDay * Config.daySeconds + Config.lastSecond
  timeOfSeconds (min last ((timeSeconds now : Int) + step).toNat)

/-! ### Sense lines -/

/-- A line's filtered state is set from its raw level, and its filter is steady (R136). -/
def rearmLine (e : LineEntry) (l : SenseLine) : SenseLine :=
  { l with filtered := levelActive e l.raw, timing := false }

/-- Every line that `which` names is re-armed (R136, R138). -/
def rearmLines (which : LineFunction → Bool) (d : Device) : Device :=
  d.setTamper
    { d.tamper with
      lines := Vector.ofFn fun i =>
        if which d.tamper.table[i].function then rearmLine d.tamper.table[i] d.tamper.lines[i] else d.tamper.lines[i] }

/-- The filters of the mains lines stop (R138, R177). -/
def stopMainsLines (d : Device) : Device :=
  d.setTamper
    { d.tamper with
      lines := Vector.ofFn fun i =>
        if mainsFunction d.tamper.table[i].function then { d.tamper.lines[i] with timing := false }
        else d.tamper.lines[i] }

/-! ### Orders the spec leaves open -/

/-- The members of `all`, those of `first` first and in its order, each once (logs 4 and 23). -/
def takeFirst {α : Type} [DecidableEq α] : List α → List α → List α
  | [], all => all
  | a :: first, all => if a ∈ all then a :: takeFirst first (all.erase a) else takeFirst first all

/-! ### The display, and a whole event -/

/-- A change of a displayed field calls for a STATUS frame while the link runs (R99, case 2). -/
def noteDisplay (old new : Device) : Device :=
  if running old && running new && displayed old != displayed new then
    new.setLink { new.link with statusDue := true }
  else new

/-- One event is taken whole: the part changes by `f`, and a displayed change is noted. The queue is left as it is. -/
def takeEvent (s : State) (f : Device → Device) : Host.Outcome State Fault Refusal :=
  .next { s with device := noteDisplay s.device (f s.device) }

end Sys2Proof.Machine
end

