-- ==== Sys2Proof/Machine/CodeChecker.lean ====
section
/-! DEFINITION. Chapter 4: the unmasked code, the request queue, the check operation and its ten steps, the used-code
list, the reporting of outcomes, and aborts. -/

namespace Sys2Proof.Machine

/-! ### The code (section 4.1) -/

/-- The decimal number of digits, the first most significant (R67). -/
def digitsNumber (digits : List Digit) : Nat := digits.foldl (fun n d => n * 10 + d.val) 0

/-- The number of the digits u`from`+1 to u`from`+`count` (Table 4-1). -/
def digitField (u : List Digit) (skip count : Nat) : Nat := digitsNumber ((u.drop skip).take count)

/-- The fields of an unmasked code (Table 4-1). -/
structure CodeFields where
  codeClass : Digit
  issue : Nat
  issueDay : Nat
  parameter : Nat
  value : Nat
deriving DecidableEq, Repr

/-- A code unmasked with the binding key, digit by digit modulo 10 (R66). -/
def unmask (digits key : List Digit) : List Digit := List.zipWith (· - ·) digits key

/-- The fields of 24 unmasked digits (R67). -/
def fieldsOf (u : List Digit) : CodeFields :=
  { codeClass := u.headD 0, issue := digitField u 1 6, issueDay := digitField u 7 3, parameter := digitField u 10 2,
    value := digitField u 12 10 }

/-- The check digits are right (R68). -/
def checkRight (u : List Digit) : Bool := digitField u 22 2 == 98 - digitField u 0 22 * 100 % 97

/-! ### The checks (section 4.4) -/

/-- A blocked class (R69). -/
def blockedClass (c : Digit) : Bool := c == 0 || c == 1 || c == 3 || c == 4

/-- The exemption of a SERVICE_OPEN code after retained loss (R78). -/
def exemptCode (f : CodeFields) (c : Codes) : Bool := f.codeClass == 5 && c.used.isEmpty && c.floor == Config.floorTop

/-- The age of a code (R79). -/
def codeAge (day issueDay : Nat) : Nat := (day % 1000 + 1000 - issueDay) % 1000

/-- A code has expired (R79). -/
def codeExpired (f : CodeFields) (d : Device) : Bool :=
  decide (0 < d.codes.validityDays) && d.clock.isSet
    && decide (d.codes.validityDays < codeAge d.clock.now.day f.issueDay)

/-- The Account's admission test of a CREDIT amount (R30). -/
def creditRefusal (amount : Nat) (a : Account) : Option Result :=
  if amount = 0 ∨ Config.moneyTop < amount then some .badValue
  else if (Config.moneyTop : Int) < a.balance + topUpCredited amount a then some .overLimit
  else none

/-- The checks that belong to the class (R81). -/
def classRefusal (f : CodeFields) (d : Device) : Option Result :=
  match f.codeClass.val with
  | 0 => creditRefusal f.value d.account
  | 2 => if f.parameter ≤ 7 ∨ f.parameter = 99 then none else some .badValue
  | 3 => if Config.loadTop < f.value then some .badValue else none
  | 4 => confirmRefusal f.value d
  | _ => none

/-- Steps 3 to 9 of the check (Table 4-4), for a code whose check digits are right. -/
def judgeFields (f : CodeFields) (d : Device) : Result :=
  if 7 < f.codeClass.val then .unknownClass
  else if f.codeClass = 7 then if f.issue = 0 then .accepted else .badValue
  else if !exemptCode f d.codes && d.codes.used.any (·.issue == f.issue) then .duplicate
  else if !exemptCode f d.codes && decide (f.issue < d.codes.floor) then .tooOld
  else if codeExpired f d then .expired
  else if blockedClass f.codeClass && codeBlock d then .blocked
  else (classRefusal f d).getD .accepted

/-- Steps 1 to 9 of the check: the outcome, and the fields of a code that passed step 2 (R75 to R81, R87). -/
def judgeCode (digits : List Digit) (d : Device) : Result × Option CodeFields :=
  match d.oneTime with
  | none => (.notCommissioned, none)
  | some store =>
    let u := unmask digits store.key
    let f := fieldsOf u
    if d.power.part = .uncommissioned then (.notCommissioned, none)
    else if d.power.part = .accountLost ∧ f.codeClass ≠ 5 ∧ f.codeClass ≠ 7 then (.accountLost, none)
    else if checkRight u then (judgeFields f d, some f)
    else (.badCheck, none)

/-! ### Acceptance (R82, R83) -/

/-- The effect of an accepted class, applied by the owning block (R82, item 1). -/
def classEffect (f : CodeFields) (d : Device) : Device :=
  match f.codeClass.val with
  | 0 => topUp f.value d
  | 1 => debtSet f.value f.parameter d
  | 2 => clearTamper f.parameter d
  | 3 => writeLimit f.value d
  | 4 => confirmTariff d
  | 5 => serviceOpen f.value d
  | 6 => clearAccount d
  | _ => d

/-- An issue number at its place in the ascending list (R83). -/
def insertUsed (e : UsedCode) : List UsedCode → List UsedCode
  | [] => [e]
  | x :: rest => if e.issue < x.issue then e :: x :: rest else x :: insertUsed e rest

/-- The accepted code is listed; a 49th entry removes the lowest and raises the floor (R83). -/
def listCode (f : CodeFields) (d : Device) : Device :=
  let entry : UsedCode :=
    { issue := f.issue, codeClass := f.codeClass, day := if d.clock.isSet then some d.clock.now.day else none }
  let listed := insertUsed entry d.codes.used
  match listed with
  | lowest :: rest =>
    if Config.usedPlaces < listed.length then
      d.setCodes { d.codes with used := rest, floor := lowest.issue + 1 }
    else d.setCodes { d.codes with used := listed }
  | [] => d

/-- Step 10 of the check for a class other than TEST (R82); `exempt` is the exemption of R78. -/
def acceptCode (f : CodeFields) (d : Device) : Device :=
  let exempt := exemptCode f d.codes
  let effected := classEffect f d
  let listed := if exempt then effected else listCode f effected
  addRecord (.codeAccepted (f.codeClass.val * 1000000 + f.issue) f.value) listed

/-! ### Outcome reporting (section 4.7) -/

/-- A KEYPAD outcome: the last keypad outcome, the refusal counter, the lockout (R86, R108, R109). -/
def keypadOutcome (r : Result) (d : Device) : Device :=
  let shown : Keypad := { d.keypad with outcome := some (r, .code) }
  match r with
  | .badCheck =>
    if Config.lockoutRefusals ≤ d.keypad.refusals + 1 then
      addRecord (.lockout Config.lockoutMinutes)
        (d.setKeypad { shown with refusals := 0, lockout := Config.lockoutMinutes })
    else d.setKeypad { shown with refusals := d.keypad.refusals + 1 }
  | .accepted => d.setKeypad { shown with refusals := 0 }
  | _ => d.setKeypad shown

/-- An outcome is reported to its source (R86, R87, R88). -/
def reportOutcome (c : QueuedCode) (r : Result) (fields : Option (Digit × Nat)) (d : Device) : Device :=
  let last : LastResult := { ticket := c.ticket, outcome := r, classIssue := fields }
  match c.source with
  | .keypad => keypadOutcome r d
  | .meterHost =>
    raiseNotice .codeResult
      (d.setHost
        { d.host with lastResult := some last, seen := d.host.seen ||| (1#14 <<< outcomeBit r) })
  | .service => d.setService { d.service with lastResult := some last }

/-! ### The queue and the check operation (sections 4.3, 4.4) -/

/-- A check starts when the operation is idle and the queue is not empty (R74). -/
def startCheck (d : Device) : Device :=
  match d.codes.inCheck, d.codes.queue with
  | none, c :: rest => d.setCodes { d.codes with inCheck := some c, queue := rest }
  | _, _ => d

/-- A code is taken into the queue with the next ticket (R70). -/
def enqueueCode (source : CodeSource) (digits : List Digit) (d : Device) : Device :=
  startCheck
    (d.setCodes
      { d.codes with
        queue := d.codes.queue ++ [{ source := source, digits := digits, ticket := d.codes.nextTicket }],
        nextTicket := if d.codes.nextTicket < 255 then d.codes.nextTicket + 1 else 0 })

/-- A KEYPAD code stands in the queue or is in check (R71). -/
def keypadBusy (c : Codes) : Bool := (c.inCheck.toList ++ c.queue).any (·.source == .keypad)

/-- The answer to a KEYPAD submission (R71). -/
def keypadAnswer (c : Codes) : Result :=
  if keypadBusy c then .busy else if Config.queuePlaces ≤ c.queue.length then .queueFull else .queued

/-- A KEYPAD submission (R71). -/
def submitKeypad (digits : List Digit) (d : Device) : Result × Device :=
  let answer := keypadAnswer d.codes
  (answer, if answer = .queued then enqueueCode .keypad digits d else d)

/-- A SUBMIT_CODE request of a port (R72). -/
def submitPort (source : CodeSource) (parameters : List Byte) (d : Device) : Device × Answer :=
  match codeOf parameters with
  | none => (d, { result := .badValue, data := [] })
  | some digits =>
    if Config.queuePlaces ≤ d.codes.queue.length then (d, { result := .queueFull, data := [] })
    else (enqueueCode source digits d, { result := .queued, data := beBytes 1 d.codes.nextTicket })

/-- The code in check completes: judged, applied, reported; then the next check starts (R74, R75). -/
def completeCheck (c : QueuedCode) (d : Device) : Device :=
  let idle := d.setCodes { d.codes with inCheck := none }
  let verdict := judgeCode c.digits d
  let done :=
    match verdict with
    | (.accepted, some f) => if f.codeClass = 7 then idle else acceptCode f idle
    | _ => idle
  startCheck (reportOutcome c verdict.1 (verdict.2.map fun f => (f.codeClass, f.issue)) done)

/-- Every code is discarded with outcome ABORTED, the code in check first (R85). -/
def abortCodes (d : Device) : Device :=
  (d.codes.inCheck.toList ++ d.codes.queue).foldl (fun now c => reportOutcome c .aborted none now)
    (d.setCodes { d.codes with inCheck := none, queue := [] })

/-- CHECK_COMPLETION (R75). -/
def execCheckCompletion (s : State) : Host.Outcome State Fault Refusal :=
  takeEvent s fun d =>
    match d.codes.inCheck with
    | some c => completeCheck c d
    | none => d

end Sys2Proof.Machine
end

