-- ==== Sys2Proof/Machine/Ticks.lean ====
section
/-! DEFINITION. Sections 3.1, 3.3 and the timers counted in second ticks and minute boundaries: the second tick, and
the ticks that bring about a boundary or an expiry. A boundary and an expiry are parts of the tick they occur at
(R47, R48; log 3); where the spec leaves the order of two parts open, the command names which comes first (log 4). -/

namespace Sys2Proof.Machine

/-- Meter time one second later; it holds at its maximum (R47). -/
def advanceTime (t : MeterTime) : MeterTime :=
  if t.second < Config.lastSecond then { t with second := t.second + 1 }
  else if t.day < Config.lastDay then { day := t.day + 1, second := 0 }
  else t

/-- The next tick is a minute boundary (R48). -/
def minuteNext (d : Device) : Bool :=
  alive d && advanceTime d.clock.now != d.clock.now && (advanceTime d.clock.now).second % 60 == 0

/-- The next tick is a day boundary (R48). -/
def dayNext (d : Device) : Bool :=
  alive d && advanceTime d.clock.now != d.clock.now && (advanceTime d.clock.now).second == 0

/-- The next tick is a slot boundary (R128). -/
def slotNext (d : Device) : Bool :=
  alive d && advanceTime d.clock.now != d.clock.now && (advanceTime d.clock.now).second % 5 == 0

/-- The keypad's state that mains loss, RESTART and inactivity clear (R107, R110). -/
def clearEntry (k : Keypad) : Keypad := { k with buffer := [], stepTimer := 0, page := 0, inactivity := 0 }

/-- The keypad's timers take a second tick (R105, R107). -/
def keypadSecond (k : Keypad) : Keypad :=
  let stepped := { k with stepTimer := k.stepTimer - 1 }
  if k.inactivity = 1 then clearEntry stepped else { stepped with inactivity := k.inactivity - 1 }

/-- Presence supervision takes a second tick with the link running (R100). -/
def presenceSecond (p : Presence) : Presence :=
  match p with
  | .watching left => .watching (left - 1)
  | other => other

/-- Meter time advances and every timer counted in second ticks is lowered (R19, R47, R100, R105, R107, R131). -/
def countSecond (d : Device) : Device :=
  let clocked := d.setClock { d.clock with now := advanceTime d.clock.now }
  let tested :=
    if d.intake.testActive then clocked.setIntake { d.intake with testTimer := d.intake.testTimer + 1 } else clocked
  let watched :=
    if running d then tested.setLink { d.link with presence := presenceSecond d.link.presence } else tested
  (watched.setKeypad (keypadSecond d.keypad)).setLoad { d.load with backoff := d.load.backoff - 1 }

/-- The service window counts a minute boundary (R90). -/
def windowMinute (d : Device) : Device :=
  if d.codes.windowMinutes = 0 then d
  else if d.codes.windowMinutes = 1 then closeWindow d
  else d.setCodes { d.codes with windowMinutes := d.codes.windowMinutes - 1 }

/-- The lockout counts a minute boundary (R109). -/
def lockoutMinute (d : Device) : Device := d.setKeypad { d.keypad with lockout := d.keypad.lockout - 1 }

/-- A minute boundary, in the order of R48. `day` says that it is a day boundary too. -/
def minuteStep (day : Bool) (d : Device) : Device :=
  let processed :=
    if day ∧ d.power.supply = .mains ∧ d.power.part ≠ .initializing then dayProcessing d else d
  let tested := if d.power.part ≠ .initializing then activationTest processed else processed
  lockoutMinute (windowMinute (recomputeCreditReason tested))

/-- Backoff expiry: LOAD leaves the set (R131). A backoff begun within the same tick does not expire. -/
def backoffStep (ran : Bool) (d : Device) : Device :=
  if ran ∧ d.load.backoff = 0 then setReason .load false d else d

/-- Test expiry (R19). -/
def testStep (d : Device) : Device :=
  if Config.testSeconds ≤ d.intake.testTimer then endTest .expiry d else d

/-- Presence expiry (R100). -/
def presenceStep (d : Device) : Device :=
  if d.link.presence = .watching 0 then
    detect .ciuLink none (d.setLink { d.link with presence := .lapsed })
  else d

/-- One part of a second tick, for the part as it stood before the tick. -/
def tickPart (before : Device) (p : TickPart) (d : Device) : Device :=
  match p with
  | .boundary => if minuteNext before then minuteStep (dayNext before) d else d
  | .slot => if slotNext before then slotStep d else d
  | .backoff => backoffStep (decide (0 < before.load.backoff)) d
  | .test => testStep d
  | .presence => if running before then presenceStep d else d

/-- The parts of a tick, those of `first` first, each once (log 4). -/
def tickOrder (first : List TickPart) : List TickPart :=
  takeFirst first [TickPart.backoff, TickPart.test, TickPart.presence, TickPart.slot, TickPart.boundary]

/-- One part of a tick, its displayed change noted: each part is an event of its own, so a field that one part changes
and a later part restores still calls for a STATUS frame (R99, R111, R131). -/
def notedPart (before d : Device) (p : TickPart) : Device := noteDisplay d (tickPart before p d)

/-- A second tick (R47), taken while the always-on domain has supply. -/
def secondStep (order : List TickPart) (d : Device) : Device :=
  if alive d then order.foldl (notedPart d) (noteDisplay d (countSecond d)) else d

/-- SECOND_TICK (R47). -/
def execSecondTick (first : List TickPart) (s : State) : Host.Outcome State Fault Refusal :=
  takeEvent s (secondStep (tickOrder first))

/-- MINUTE_BOUNDARY (R48): the tick that reaches a minute, its boundary first. -/
def execMinuteBoundary (s : State) : Host.Outcome State Fault Refusal :=
  takeEvent s fun d => if minuteNext d then secondStep (tickOrder [.boundary]) d else d

/-- DAY_BOUNDARY (R48): the tick that reaches a day, its boundary first. -/
def execDayBoundary (s : State) : Host.Outcome State Fault Refusal :=
  takeEvent s fun d => if dayNext d then secondStep (tickOrder [.boundary]) d else d

/-- SLOT_BOUNDARY (R129): the tick that reaches a multiple of 5 s, its slot boundary first. -/
def execSlotBoundary (s : State) : Host.Outcome State Fault Refusal :=
  takeEvent s fun d => if slotNext d then secondStep (tickOrder [.slot]) d else d

/-- BACKOFF_EXPIRY (R131): the tick that ends the backoff, its expiry first. -/
def execBackoffExpiry (s : State) : Host.Outcome State Fault Refusal :=
  takeEvent s fun d => if d.load.backoff = 1 then secondStep (tickOrder [.backoff]) d else d

/-- TEST_EXPIRY (R19): the tick that ends the meter test, its expiry first. -/
def execTestExpiry (s : State) : Host.Outcome State Fault Refusal :=
  takeEvent s fun d =>
    if d.intake.testActive ∧ Config.testSeconds ≤ d.intake.testTimer + 1 then secondStep (tickOrder [.test]) d else d

/-- SERVICE_WINDOW_EXPIRY (R90): the tick whose minute boundary closes the window. -/
def execServiceWindowExpiry (s : State) : Host.Outcome State Fault Refusal :=
  takeEvent s fun d =>
    if minuteNext d ∧ d.codes.windowMinutes = 1 then secondStep (tickOrder [.boundary]) d else d

/-- LOCKOUT_EXPIRY (R109): the tick whose minute boundary ends the lockout. -/
def execLockoutExpiry (s : State) : Host.Outcome State Fault Refusal :=
  takeEvent s fun d => if minuteNext d ∧ d.keypad.lockout = 1 then secondStep (tickOrder [.boundary]) d else d

/-- STEP_EXPIRY (R105): the tick that disarms the emergency step. -/
def execStepExpiry (s : State) : Host.Outcome State Fault Refusal :=
  takeEvent s fun d => if d.keypad.stepTimer = 1 then secondStep (tickOrder []) d else d

/-- INACTIVITY_EXPIRY (R107): the tick that ends the inactivity timer. -/
def execInactivityExpiry (s : State) : Host.Outcome State Fault Refusal :=
  takeEvent s fun d => if d.keypad.inactivity = 1 then secondStep (tickOrder []) d else d

/-- PRESENCE_EXPIRY (R100): the tick that lapses presence supervision, its expiry first. -/
def execPresenceExpiry (s : State) : Host.Outcome State Fault Refusal :=
  takeEvent s fun d =>
    if running d ∧ d.link.presence = .watching 1 then secondStep (tickOrder [.presence]) d else d

end Sys2Proof.Machine
end

