-- ==== Sys2Proof/Machine/CustomerLink.lean ====
section
/-! DEFINITION. Chapter 5: characters and frames on the customer link, presence supervision, the keys, and the STATUS
frames the part sends. -/

namespace Sys2Proof.Machine

/-! ### The receiver (R95, shared with the service port, R179) -/

/-- What a good character brings about. -/
inductive Received
  | nothing
  | bad
  | frame (kind : Byte) (payload : List Byte)
deriving DecidableEq, Repr

/-- A receiver takes a good character (Table 5-1). -/
def receive (c : Byte) : Assembly → Assembly × Received
  | .hunting => (if c = Config.startCharacter then .assembling [] else .hunting, .nothing)
  | .assembling [] => (.assembling [c], .nothing)
  | .assembling [kind] =>
    if c.toNat ≤ Config.framePayload then (.assembling [kind, c], .nothing) else (.hunting, .bad)
  | .assembling (kind :: length :: payload) =>
    if payload.length < length.toNat then (.assembling (kind :: length :: (payload ++ [c])), .nothing)
    else if sumsToZero (kind :: length :: (payload ++ [c])) then (.hunting, .frame kind payload)
    else (.hunting, .bad)

/-- A frame of this kind and payload can end now: no frame is begun, or what is held begins this one (log 9). -/
def admitsFrame (a : Assembly) (kind : Byte) (payload : List Byte) : Bool :=
  decide (payload.length ≤ Config.framePayload) &&
    match a with
    | .hunting => true
    | .assembling held => held.isPrefixOf (kind :: BitVec.ofNat 8 payload.length :: payload)

/-- An error count raised by 1, saturating at 255 (R96). -/
def raiseErrors (n : Nat) : Nat := if n < 255 then n + 1 else n

/-- The frame being assembled on the customer link is discarded (R95, R96). -/
def huntLink (d : Device) : Device := d.setLink { d.link with assembly := .hunting }

/-- A discarded frame that raises the bad-frame-check count (R95). -/
def badLinkFrame (d : Device) : Device :=
  d.setLink { d.link with assembly := .hunting, badFrames := raiseErrors d.link.badFrames }

/-! ### Frame arrivals (R97) -/

/-- A valid frame is handed to presence supervision, and the assembly hunts again (R95, R97, R100). -/
def frameSeen (d : Device) : Device :=
  d.setLink { d.link with assembly := .hunting, presence := .watching Config.presenceSeconds }

/-- A frame arrival on the customer link: `act` is what its kind brings about (R93, R97). -/
def linkArrival (kind : Byte) (payload : List Byte) (act : Device → Device) (d : Device) : Device :=
  if running d && admitsFrame d.link.assembly kind payload then act (frameSeen d) else d

/-- A key arrival sets the inactivity timer running, then acts (R102). -/
def keyArrival (act : Device → Device) (d : Device) : Device :=
  act (d.setKeypad { d.keypad with inactivity := Config.inactivitySeconds })

/-- A digit key (R103). -/
def digitAction (digit : Digit) (d : Device) : Device :=
  if d.keypad.buffer.length < Config.codeDigits then
    d.setKeypad { d.keypad with buffer := d.keypad.buffer ++ [digit], stepTimer := 0 }
  else d.setKeypad { d.keypad with outcome := some (.full, .entry), stepTimer := 0 }

/-- The BACK key (R103). -/
def backAction (d : Device) : Device :=
  d.setKeypad { d.keypad with buffer := d.keypad.buffer.dropLast, stepTimer := 0 }

/-- ENTER with the emergency step ARMED: an emergency take request (R33, R104). -/
def enterEmergency (d : Device) : Device :=
  let outcome := emergencyOutcome d
  let taken := if outcome = .accepted then emergencyTake d else d
  taken.setKeypad { taken.keypad with stepTimer := 0, outcome := some (outcome, .emergency) }

/-- ENTER with 24 digits and no lockout: a submission (R71, R104). -/
def enterCode (d : Device) : Device :=
  let submitted := submitKeypad d.keypad.buffer d
  let cleared : Keypad := { d.keypad with buffer := [] }
  submitted.2.setKeypad
    (if submitted.1 = .queued then cleared else { cleared with outcome := some (submitted.1, .code) })

/-- The ENTER key (Table 5-4). -/
def enterAction (d : Device) : Device :=
  if 0 < d.keypad.stepTimer then enterEmergency d
  else if d.keypad.buffer.length = Config.codeDigits then
    if 0 < d.keypad.lockout then
      d.setKeypad { d.keypad with buffer := [], outcome := some (.lockedOut, .entry) }
    else enterCode d
  else if d.keypad.buffer = [] then d
  else d.setKeypad { d.keypad with buffer := [], outcome := some (.short, .entry) }

/-- The EMERGENCY key (R105). -/
def emergencyAction (d : Device) : Device :=
  if d.keypad.buffer = [] then d.setKeypad { d.keypad with stepTimer := Config.stepSeconds } else d

/-- The INFO key (R106). -/
def infoAction (d : Device) : Device :=
  d.setKeypad { d.keypad with page := if d.keypad.page < 3 then d.keypad.page + 1 else 0 }

/-- A PRESENCE frame (R101). -/
def presenceAction (caseOpen : Bool) (version : Byte) (d : Device) : Device :=
  let stored :=
    d.setLink { d.link with ciuVersion := some version, ciuCase := if caseOpen then .open else .closed }
  if caseOpen ∧ d.link.ciuCase = .closed then detect .ciuCase none stored else stored

/-- What a KEY frame's character brings about; one beyond the list brings nothing (R97, R191). -/
def keyAction (key : Byte) : Device → Device :=
  if h : key.toNat < 10 then keyArrival (digitAction ⟨key.toNat, h⟩)
  else if key = 0x0A then keyArrival backAction
  else if key = 0x0B then keyArrival enterAction
  else if key = 0x0C then keyArrival emergencyAction
  else if key = 0x0D then keyArrival reconnectPress
  else if key = 0x0E then keyArrival infoAction
  else id

/-- What a frame brings about by its kind (R97, R191). -/
def frameAction (kind : Byte) (payload : List Byte) : Device → Device :=
  match payload with
  | [key] => if kind = Config.kindKey then keyAction key else id
  | [ciuCase, version] =>
    if kind = Config.kindPresence ∧ ciuCase = 0x00 then presenceAction false version
    else if kind = Config.kindPresence ∧ ciuCase = 0x01 then presenceAction true version
    else id
  | _ => id

/-- The customer link takes a good character (R95). -/
def linkCharacter (c : Byte) (d : Device) : Device :=
  if running d then
    match receive c d.link.assembly with
    | (a, .nothing) => d.setLink { d.link with assembly := a }
    | (_, .bad) => badLinkFrame d
    | (_, .frame kind payload) => frameAction kind payload (frameSeen d)
  else d

/-! ### STATUS frames (R98, R99) -/

/-- A STATUS frame begins its transmission, assembled from the state now (R98, R99). -/
def beginStatus (d : Device) : Device :=
  d.setLink { d.link with sending := some (statusPayload d), statusDue := false, periodRunning := true }

/-- The link stops: the assembly hunts and a STATUS frame in transmission is abandoned (R93). -/
def stopLink (d : Device) : Device :=
  d.setLink { d.link with assembly := .hunting, sending := none, statusDue := false, periodRunning := false }

/-- Presence supervision restarts its timer when WATCHING (R100). -/
def restartPresence (p : Presence) : Presence :=
  match p with
  | .watching _ => .watching Config.presenceSeconds
  | other => other

/-- The link starts: a STATUS frame is due (R93, R99), and a WATCHING timer is set (R100). -/
def startLink (d : Device) : Device :=
  d.setLink
    { d.link with assembly := .hunting, statusDue := true, presence := restartPresence d.link.presence }

/-! ### The commands -/

/-- LINK_DAMAGED_CHARACTER (R96). -/
def execLinkDamagedCharacter (e : CharError) (s : State) : Host.Outcome State Fault Refusal :=
  takeEvent s fun d =>
    if running d then
      match e with
      | .parity => d.setLink { d.link with assembly := .hunting, parityErrors := raiseErrors d.link.parityErrors }
      | .framing => d.setLink { d.link with assembly := .hunting, framingErrors := raiseErrors d.link.framingErrors }
    else d

/-- LINK_GAP_EXPIRY (R95): no gap is timed while HUNTING. -/
def execLinkGapExpiry (s : State) : Host.Outcome State Fault Refusal :=
  takeEvent s fun d => if running d ∧ d.link.assembly ≠ .hunting then badLinkFrame d else d

/-- LINK_BAD_FRAME_CHECK (R95). -/
def execLinkBadFrameCheck (s : State) : Host.Outcome State Fault Refusal :=
  takeEvent s fun d => if running d then badLinkFrame d else d

/-- LINK_GOOD_CHARACTER (R95). One that ends a frame brings about what the frame does (log 10). -/
def execLinkGoodCharacter (c : Byte) (s : State) : Host.Outcome State Fault Refusal :=
  takeEvent s (linkCharacter c)

/-- DIGIT_KEY (R103). -/
def execDigitKey (digit : Digit) (s : State) : Host.Outcome State Fault Refusal :=
  takeEvent s (linkArrival Config.kindKey [BitVec.ofNat 8 digit.val] (keyArrival (digitAction digit)))

/-- BACK_KEY (R103). -/
def execBackKey (s : State) : Host.Outcome State Fault Refusal :=
  takeEvent s (linkArrival Config.kindKey [0x0A] (keyArrival backAction))

/-- ENTER_KEY (R104). -/
def execEnterKey (s : State) : Host.Outcome State Fault Refusal :=
  takeEvent s (linkArrival Config.kindKey [0x0B] (keyArrival enterAction))

/-- EMERGENCY_KEY (R105). -/
def execEmergencyKey (s : State) : Host.Outcome State Fault Refusal :=
  takeEvent s (linkArrival Config.kindKey [0x0C] (keyArrival emergencyAction))

/-- RECONNECT_KEY (R106). -/
def execReconnectKey (s : State) : Host.Outcome State Fault Refusal :=
  takeEvent s (linkArrival Config.kindKey [0x0D] (keyArrival reconnectPress))

/-- INFO_KEY (R106). -/
def execInfoKey (s : State) : Host.Outcome State Fault Refusal :=
  takeEvent s (linkArrival Config.kindKey [0x0E] (keyArrival infoAction))

/-- PRESENCE_FRAME (R101). -/
def execPresenceFrame (caseOpen : Bool) (version : Byte) (s : State) : Host.Outcome State Fault Refusal :=
  takeEvent s
    (linkArrival Config.kindPresence [if caseOpen then 0x01 else 0x00, version] (presenceAction caseOpen version))

/-- LINK_OTHER_FRAME (R97): a frame acts by its kind; of another kind or form it only proves the CIU present. -/
def execLinkOtherFrame (kind : Byte) (payload : List Byte) (s : State) : Host.Outcome State Fault Refusal :=
  takeEvent s (linkArrival kind payload (frameAction kind payload))

/-- STATUS_PERIOD_EXPIRY (R99, case 3). -/
def execStatusPeriodExpiry (s : State) : Host.Outcome State Fault Refusal :=
  takeEvent s fun d => if running d ∧ d.link.periodRunning ∧ d.link.sending = none then beginStatus d else d

/-- STATUS_TRANSMIT_START (R99, cases 1 and 2). -/
def execStatusTransmitStart (s : State) : Host.Outcome State Fault Refusal :=
  takeEvent s fun d => if running d ∧ d.link.statusDue ∧ d.link.sending = none then beginStatus d else d

/-- STATUS_FRAME_END (R99): changes taken meanwhile begin the next frame at the end of this one. -/
def execStatusFrameEnd (s : State) : Host.Outcome State Fault Refusal :=
  takeEvent s fun d =>
    if running d ∧ d.link.sending ≠ none then
      let ended := d.setLink { d.link with sending := none }
      if d.link.statusDue then beginStatus ended else ended
    else d

end Sys2Proof.Machine
end

