-- ==== Sys2Proof/Machine/Readouts.lean ====
section
/-! DEFINITION. The data of the read responses of both ports, laid out by R190 in the order the owning rule lists the
fields. A readout is a list of fields, so that a paged read can be divided between them (R180). -/

namespace Sys2Proof.Machine

/-! ### Fields shared by the readouts -/

/-- The open-reason set in one byte (R190). -/
def reasonsByte (r : Reasons) : List Byte := beBytes 1 (reasonsCode r)

/-- A notice set in two bytes (R190). -/
def noticeBytes (n : NoticeSet) : List Byte := beBytes 2 n.toNat

/-- A service window: its state and the minutes remaining, absent while CLOSED (R89, log 16). -/
def windowFields (minutes : Nat) : List (List Byte) :=
  if minutes = 0 then [[0x00], absentBytes 1] else [[0x01], beBytes 1 minutes]

/-- Meter time (the marker while UNSET, log 30), its state, last_charged_day and the band in force (R168, R182). -/
def clockFields (d : Device) : List (List Byte) :=
  [meterTimeBytes (timeMark d), yesNo d.clock.isSet, optionalBytes 3 d.clock.lastCharged, beBytes 1 (bandInForce d)]

/-- CIU presence supervision, case state and version (R100, R101). -/
def ciuFields (l : Link) : List (List Byte) :=
  [nameByte (presenceCode l.presence), nameByte (ciuCaseCode l.ciuCase), optionalBytes 2 (l.ciuVersion.map (·.toNat))]

/-- The relay fault record, all 0xFF when absent (R124, R190). -/
def faultBytes : Option RelayFault → List Byte
  | none => absentBytes 7
  | some f => nameByte (faultCode f.cause) ++ meterTimeBytes f.time ++ yesNo f.multiple

/-- A friendly window entry (R35). -/
def windowEntryBytes (w : FriendlyWindow) : List Byte := beBytes 2 w.start ++ beBytes 2 w.finish ++ beBytes 1 w.mask

/-- A source entry with every field of Table 7-6 (log 33). -/
def sourceBytes (e : SourceEntry) : List Byte :=
  nameByte (actionCode e.action) ++ yesNo e.latched ++ beBytes 1 e.count ++ firstTimeBytes e.firstTime
    ++ optionalBytes 5 e.record

/-- A function table entry with its line's filtered state (R135, R137). -/
def lineBytes (e : LineEntry) (l : SenseLine) : List Byte :=
  nameByte (functionCode e.function) ++ nameByte (if e.activeHigh then 0 else 1) ++ beBytes 2 e.filterTime
    ++ nameByte (if l.filtered then 1 else 0)

/-- A last-result record (R87, R88, R192). -/
def lastResultBytes : Option LastResult → List Byte
  | none => absentBytes 6
  | some r =>
    beBytes 1 r.ticket ++ beBytes 1 (resultCode r.outcome)
      ++ (match r.classIssue with | none => absentBytes 4 | some (c, issue) => beBytes 1 c.val ++ beBytes 3 issue)

/-- The link rate in bit/s (R94). -/
def rateNumber : LinkRate → Nat
  | .r1200 => 1200
  | .r2400 => 2400
  | .r4800 => 4800
  | .r9600 => 9600

/-! ### The readouts -/

/-- The GET_STATUS response (Table 9-2). -/
def hostStatus (d : Device) : List (List Byte) :=
  [nameByte (partCode d.power.part), yesNo d.intake.testActive] ++ clockFields d
    ++ [nameByte (creditCode d.account.creditState), nameByte (relayCode (relayName d.relay.state)),
      reasonsByte d.relay.reasons]
    ++ windowFields d.codes.windowMinutes
    ++ [beBytes 3 d.codes.floor, beBytes 1 d.codes.used.length, yesNo (codeBlock d)]
    ++ ciuFields d.link
    ++ [beBytes 5 d.log.next, beBytes 1 d.log.records.length, beBytes 5 d.log.hostCursor, noticeBytes d.host.notices,
      noticeBytes d.host.enabled, beBytes 1 d.host.badFrames]

/-- The READ_STATUS response (R182). The serial's twelve digits are absent until commissioned. -/
def serviceStatus (d : Device) : List (List Byte) :=
  [nameByte (partCode d.power.part), yesNo d.intake.testActive, yesNo d.oneTime.isSome,
      (match d.oneTime with | none => absentBytes 12 | some o => digitBytes o.serial)]
    ++ clockFields d
    ++ [nameByte (creditCode d.account.creditState), nameByte (relayCode (relayName d.relay.state)),
      reasonsByte d.relay.reasons, faultBytes d.relay.fault]
    ++ windowFields d.codes.windowMinutes
    ++ [beBytes 3 d.codes.floor, yesNo (codeBlock d), beBytes 5 d.log.next, beBytes 1 d.log.records.length,
      beBytes 5 d.log.serviceCursor]

/-- The account record, the residue, and what R45 adds to them: GET_ACCOUNT. -/
def accountData (d : Device) : List Byte :=
  signedBytes 4 d.account.balance ++ beBytes 3 d.account.emergency ++ beBytes 4 d.account.debt
    ++ beBytes 1 d.account.recoveryPercent ++ beBytes 5 d.account.purchased ++ beBytes 5 d.account.charged
    ++ nameByte (creditCode d.account.creditState) ++ beBytes 2 d.residue ++ yesNo (emergencyAvailable d)
    ++ yesNo d.relay.reasons.credit ++ yesNo d.relay.reasons.account

/-- READ_ACCOUNT: the same, and the settings with the four friendly window entries (R45). -/
def accountSettingsData (d : Device) : List Byte :=
  accountData d ++ beBytes 3 d.settings.lowLevel ++ signedBytes 4 d.settings.friendlyFloor
    ++ beBytes 3 d.settings.emergencyAmount ++ beBytes 3 d.settings.emergencyThreshold
    ++ (d.settings.windows.toList.map windowEntryBytes).flatten

/-- The demand read (R133). A backoff that does not run is carried as absent. -/
def demandFields (l : Load) : List (List Byte) :=
  l.slots.toList.map (beBytes 2)
    ++ [beBytes 3 l.slots.toList.sum, beBytes 3 l.limit, optionalBytes 3 l.pendingLimit,
      optionalBytes 2 (if l.backoff = 0 then none else some l.backoff)]
    ++ (List.range Config.tripPlaces).map fun i => optionalBytes 5 l.history[i]?

/-- The tamper read (R151). -/
def tamperFields (d : Device) : List (List Byte) :=
  d.tamper.sources.toList.map sourceBytes
    ++ [yesNo (tamperReasonOf d), yesNo (codeBlock d), beBytes 1 d.tamper.bypassThreshold,
      beBytes 1 d.tamper.reverseThreshold]
    ++ List.zipWith lineBytes d.tamper.table.toList d.tamper.lines.toList

/-- READ_LINK: the three counts, the link rate and the presence supervision state as R96 lists them (R190), then the
CIU's case and version and the refusal counter (R100, R101, R108; log 19). -/
def linkData (d : Device) : List Byte :=
  beBytes 1 d.link.parityErrors ++ beBytes 1 d.link.framingErrors ++ beBytes 1 d.link.badFrames
    ++ beBytes 2 (rateNumber d.link.rate) ++ (ciuFields d.link).flatten ++ beBytes 1 d.keypad.refusals

/-- READ_ENERGY (R182; log 19). -/
def energyData (d : Device) : List Byte :=
  (d.intake.bands.toList.map (beBytes 4)).flatten ++ beBytes 5 d.intake.lifetime ++ beBytes 1 d.intake.reverse
    ++ beBytes 1 d.intake.openEnergy ++ beBytes 2 d.residue
    ++ (List.zipWith (fun i e => beBytes 3 i ++ beBytes 3 e) d.intake.testImport.toList
          d.intake.testExport.toList).flatten
    ++ yesNo d.intake.testActive ++ beBytes 2 d.intake.testTimer

/-- A used-code entry (R83). The day number is optional, so it takes three bytes (R190). -/
def usedBytes (e : UsedCode) : List Byte := beBytes 3 e.issue ++ beBytes 1 e.codeClass.val ++ optionalBytes 3 e.day

/-- READ_CODE_LIST (R83, R182). -/
def codeListFields (c : Codes) : List (List Byte) :=
  c.used.map usedBytes ++ [beBytes 3 c.floor, beBytes 2 c.validityDays]

/-! ### Reading the log (R157) -/

/-- The records due to a cursor (R157, step 1). -/
def dueRecords (cursor : Nat) (l : Log) : List LogRecord := l.records.filter fun r => decide (cursor ≤ r.number)

/-- The records one READ_LOG delivers (R157, step 2). -/
def delivered (batch cursor : Nat) (l : Log) : List LogRecord := (dueRecords cursor l).take batch

/-- The cursor after a READ_LOG (R157, step 4). -/
def cursorAfter (batch cursor : Nat) (l : Log) : Nat :=
  match (delivered batch cursor l).getLast? with
  | some r => r.number + 1
  | none => cursor

/-- The skipped count (R157, step 3). -/
def skippedCount (batch cursor : Nat) (l : Log) : Nat :=
  cursorAfter batch cursor l - cursor - (delivered batch cursor l).length

/-- The READ_LOG data (R157, R192). -/
def readLogData (batch cursor : Nat) (l : Log) : List Byte :=
  let out := delivered batch cursor l
  let after := cursorAfter batch cursor l
  beBytes 1 out.length ++ yesNo (decide (0 < skippedCount batch cursor l)) ++ beBytes 4 (skippedCount batch cursor l)
    ++ beBytes 5 after ++ beBytes 1 (dueRecords after l).length ++ (out.map recordBytes).flatten

end Sys2Proof.Machine
end

