-- ==== Sys2Proof/Machine/HostPort.lean ====
section
/-! DEFINITION. Chapter 9: the meter host port. A request is a handler that answers the part after it and the
response; the port judges the form, takes the request whole at its arrival, and prepares the response. -/

namespace Sys2Proof.Machine

/-! ### Answers and requests shared by both ports -/

/-- A refusal carries no data (R166, R191). -/
def refusal (r : Result) : Answer := { result := r, data := [] }

/-- An ACCEPTED answer with its data. -/
def accepted (data : List Byte) : Answer := { result := .accepted, data := data }

/-- A request's handler: the part as the request leaves it, and the answer. -/
abbrev Handler := Device → Device × Answer

/-- A request that carries no parameter is refused BAD_VALUE with any (R166, R181). -/
def noParameters (parameters : List Byte) (h : Handler) : Handler := fun d =>
  if parameters = [] then h d else (d, refusal .badValue)

/-- A read: no block changes (R167, R182). -/
def reading (data : Device → List Byte) : Handler := fun d => (d, accepted (data d))

/-- PUT_PENDING_TARIFF's judgement: the form, then the record (R58, R194). -/
def putTariff (parameters : List Byte) : Handler := fun d =>
  match packedTariff parameters with
  | none => (d, refusal .badValue)
  | some t => if validTariff t then (putPending t d, accepted []) else (d, refusal .badTariff)

/-- CANCEL_PENDING (R59). -/
def cancelPending : Handler := fun d =>
  match d.tariffs.pending with
  | none => (d, refusal .noPending)
  | some _ => (d.setTariffs { d.tariffs with pending := none }, accepted [])

/-- The day and the second that five parameters carry (R192). -/
def timeOf (parameters : List Byte) : Option MeterTime :=
  if parameters.length = 5 then
    some { day := beNat (parameters.take 2), second := beNat (parameters.drop 2) }
  else none

/-- The restart of the volatile working state, the pending set last (R171, R189). -/
def restart (d : Device) : Device :=
  let aborted := abortCodes (endTest .restart d)
  let cleared := zeroDemand (aborted.setKeypad (clearEntry aborted.keypad))
  let counted := cleared.setLink { cleared.link with parityErrors := 0, framingErrors := 0, badFrames := 0 }
  let unmarked := counted.setLog { counted.log with mark := none }
  unmarked.setHost
    { unmarked.host with badFrames := 0, enabled := BitVec.allOnes 9, notices := noticeSet .restarted }

/-- The number a SEEK sets a cursor to; an empty log leaves it (R158, log 31). -/
def oldestNumber (cursor : Nat) (l : Log) : Nat := (l.records.head?.map (·.number)).getD cursor

def newestNumber (cursor : Nat) (l : Log) : Nat := (l.records.getLast?.map (·.number)).getD cursor

/-! ### The response buffer (R163, R164, R165) -/

/-- The response to a request arrival replaces the one held and is prepared (R163, R164). -/
def prepare (a : Answer) (d : Device) : Device := d.setHost { d.host with response := .preparing a }

/-- A frame that is not well formed (R163). -/
def badHostFrame (d : Device) : Device :=
  prepare (refusal .badFrame)
    (d.setHost
      { d.host with
        badFrames := if d.host.badFrames < 255 then d.host.badFrames + 1 else d.host.badFrames })

/-- A request arrival at the running port (R163, R166). More than 48 parameters form no well-formed frame (log 38). -/
def hostServe (parameters : List Byte) (h : Handler) (d : Device) : Device :=
  if running d then
    if parameters.length ≤ Config.hostParameters then prepare (h d).2 (h d).1 else badHostFrame d
  else d

/-- The bytes of a READY response before its check byte (R164, R192). -/
def readyBody (a : Answer) : List Byte :=
  [Config.statusReady, BitVec.ofNat 8 (resultCode a.result), BitVec.ofNat 8 a.data.length] ++ a.data

/-- The bytes of a read transaction before the 0xFF that follow them (Table 9-1A). -/
def readBytes : ResponseBuffer → List Byte
  | .empty => [Config.statusNotReady]
  | .preparing _ => [Config.statusInProgress]
  | .ready a => readyBody a ++ [checkByte (readyBody a)]

/-- Byte `k` of a read transaction that began at a buffer; it changes nothing in the buffer (R164). What the port
supplies on the bus is `suppliedByte`, while it runs and a read is in progress. -/
def hostReadByte (b : ResponseBuffer) (k : Nat) : Byte := (readBytes b).getD k 0xFF

/-- The port acknowledges an address (R162). -/
def acknowledges (d : Device) (address : Byte) : Bool := running d && address == d.host.address

/-! ### The requests of Table 9-1 -/

/-- GET_TARIFF (R63). -/
def getTariffHandler (parameters : List Byte) : Handler := fun d =>
  match parameters with
  | [selector] =>
    if selector = 0x00 then (d, accepted (tariffPage0 d.tariffs.active ++ tariffPage1 d.tariffs.active none))
    else if selector = 0x01 then
      match d.tariffs.pending with
      | none => (d, refusal .noPending)
      | some p => (d, accepted (tariffPage0 p.tariff ++ tariffPage1 p.tariff (some p.confirmed)))
    else (d, refusal .badValue)
  | _ => (d, refusal .badValue)

/-- GET_CODE_RESULT: the record and the set, and then the set is emptied (R87). -/
def codeResultHandler : Handler := fun d =>
  (d.setHost { d.host with seen := 0 },
    accepted (lastResultBytes d.host.lastResult ++ beBytes 2 d.host.seen.toNat))

/-- The new time of a set from the meter host (R49). -/
def hostNewTime (carried : MeterTime) (d : Device) : MeterTime :=
  if d.clock.isSet then movedTime d.clock.now (clampedStep ((timeSeconds carried : Int) - timeSeconds d.clock.now))
  else carried

/-- The step of a set from the meter host was clamped (R49). -/
def hostClamped (carried : MeterTime) (d : Device) : Bool :=
  d.clock.isSet
    && clampedStep ((timeSeconds carried : Int) - timeSeconds d.clock.now)
      != (timeSeconds carried : Int) - timeSeconds d.clock.now

/-- SET_TIME of the meter host (R49). -/
def hostTimeHandler (parameters : List Byte) : Handler := fun d =>
  match timeOf parameters with
  | none => (d, refusal .badValue)
  | some t =>
    if Config.lastSecond < t.second then (d, refusal .badValue)
    else
      let clamped := hostClamped t d
      let moved := applySetTime (hostNewTime t d) d
      (if clamped then raiseNotice .timeClamped moved else moved,
        accepted (meterTimeBytes (some moved.clock.now) ++ yesNo clamped))

/-- REMOTE_HOLD and REMOTE_RELEASE (R112). -/
def remoteHandler (hold : Bool) : Handler := fun d =>
  let held := setReason .remote hold d
  (held, accepted (reasonsByte held.relay.reasons))

/-- REPORT_METROLOGY_TAMPER (R143). -/
def metrologyHandler (parameters : List Byte) : Handler := fun d =>
  match parameters with
  | [detail] =>
    let taken := detect .metrology (some detail) d
    (taken, accepted (sourceBytes (sourceEntry taken .metrology)))
  | _ => (d, refusal .badValue)

/-- The meter host cursor moves, and the answer carries it (R158, R159). -/
def moveHostCursor (number : Nat) : Handler := fun d =>
  (d.setLog { d.log with hostCursor := number }, accepted (beBytes 5 number))

/-- READ_LOG of the meter host (R157). -/
def hostLogHandler : Handler := fun d =>
  (d.setLog { d.log with hostCursor := cursorAfter Config.hostBatch d.log.hostCursor d.log },
    accepted (readLogData Config.hostBatch d.log.hostCursor d.log))

/-- MARK (R159). -/
def markHandler : Handler := fun d =>
  (d.setLog { d.log with mark := some d.log.hostCursor }, accepted (beBytes 5 d.log.hostCursor))

/-- RETURN_TO_MARK (R159). -/
def returnHandler : Handler := fun d =>
  match d.log.mark with
  | none => (d, refusal .noMark)
  | some m => moveHostCursor m d

/-- GET_NOTICES (R174): the report and the removal are one arrival. -/
def noticesHandler : Handler := fun d =>
  (d.setHost { d.host with notices := 0 }, accepted (noticeBytes d.host.notices))

/-- SET_NOTICE_ENABLE (R173). A set beyond the nine notices is refused (R190). -/
def enableHandler (parameters : List Byte) : Handler := fun d =>
  if parameters.length = 2 ∧ beNat parameters < 512 then
    let mask := BitVec.ofNat 9 (beNat parameters)
    (d.setHost { d.host with enabled := mask }, accepted (noticeBytes mask))
  else (d, refusal .badValue)

/-! ### The commands -/

/-- GET_STATUS (R168). -/
def execGetStatus (p : List Byte) (s : State) : Host.Outcome State Fault Refusal :=
  takeEvent s (hostServe p (noParameters p (reading fun d => (hostStatus d).flatten)))

/-- GET_ACCOUNT (R45). -/
def execGetAccount (p : List Byte) (s : State) : Host.Outcome State Fault Refusal :=
  takeEvent s (hostServe p (noParameters p (reading accountData)))

/-- GET_TARIFF (R63). -/
def execGetTariff (p : List Byte) (s : State) : Host.Outcome State Fault Refusal :=
  takeEvent s (hostServe p (getTariffHandler p))

/-- GET_DEMAND (R133). -/
def execGetDemand (p : List Byte) (s : State) : Host.Outcome State Fault Refusal :=
  takeEvent s (hostServe p (noParameters p (reading fun d => (demandFields d.load).flatten)))

/-- GET_TAMPER (R151). -/
def execGetTamper (p : List Byte) (s : State) : Host.Outcome State Fault Refusal :=
  takeEvent s (hostServe p (noParameters p (reading fun d => (tamperFields d).flatten)))

/-- GET_RELAY_FAULT (R124). -/
def execGetRelayFault (p : List Byte) (s : State) : Host.Outcome State Fault Refusal :=
  takeEvent s (hostServe p (noParameters p (reading fun d => faultBytes d.relay.fault)))

/-- PUT_PENDING_TARIFF (R58): a put from the meter host raises no notice. -/
def execHostPutPendingTariff (p : List Byte) (s : State) : Host.Outcome State Fault Refusal :=
  takeEvent s (hostServe p (putTariff p))

/-- CANCEL_PENDING (R59). -/
def execHostCancelPending (p : List Byte) (s : State) : Host.Outcome State Fault Refusal :=
  takeEvent s (hostServe p (noParameters p cancelPending))

/-- SUBMIT_CODE (R72). -/
def execHostSubmitCode (p : List Byte) (s : State) : Host.Outcome State Fault Refusal :=
  takeEvent s (hostServe p (submitPort .meterHost p))

/-- GET_CODE_RESULT (R87). -/
def execGetCodeResult (p : List Byte) (s : State) : Host.Outcome State Fault Refusal :=
  takeEvent s (hostServe p (noParameters p codeResultHandler))

/-- SET_TIME (R49). -/
def execHostSetTime (p : List Byte) (s : State) : Host.Outcome State Fault Refusal :=
  takeEvent s (hostServe p (hostTimeHandler p))

/-- REMOTE_HOLD (R112). -/
def execRemoteHold (p : List Byte) (s : State) : Host.Outcome State Fault Refusal :=
  takeEvent s (hostServe p (noParameters p (remoteHandler true)))

/-- REMOTE_RELEASE (R112). -/
def execRemoteRelease (p : List Byte) (s : State) : Host.Outcome State Fault Refusal :=
  takeEvent s (hostServe p (noParameters p (remoteHandler false)))

/-- REPORT_METROLOGY_TAMPER (R143). -/
def execReportMetrologyTamper (p : List Byte) (s : State) : Host.Outcome State Fault Refusal :=
  takeEvent s (hostServe p (metrologyHandler p))

/-- READ_LOG (R157). -/
def execHostReadLog (p : List Byte) (s : State) : Host.Outcome State Fault Refusal :=
  takeEvent s (hostServe p (noParameters p hostLogHandler))

/-- SEEK_OLDEST (R158). -/
def execHostSeekOldest (p : List Byte) (s : State) : Host.Outcome State Fault Refusal :=
  takeEvent s (hostServe p (noParameters p fun d => moveHostCursor (oldestNumber d.log.hostCursor d.log) d))

/-- SEEK_NEWEST (R158). -/
def execHostSeekNewest (p : List Byte) (s : State) : Host.Outcome State Fault Refusal :=
  takeEvent s (hostServe p (noParameters p fun d => moveHostCursor (newestNumber d.log.hostCursor d.log) d))

/-- MARK (R159). -/
def execMark (p : List Byte) (s : State) : Host.Outcome State Fault Refusal :=
  takeEvent s (hostServe p (noParameters p markHandler))

/-- RETURN_TO_MARK (R159). -/
def execReturnToMark (p : List Byte) (s : State) : Host.Outcome State Fault Refusal :=
  takeEvent s (hostServe p (noParameters p returnHandler))

/-- GET_NOTICES (R174). -/
def execGetNotices (p : List Byte) (s : State) : Host.Outcome State Fault Refusal :=
  takeEvent s (hostServe p (noParameters p noticesHandler))

/-- SET_NOTICE_ENABLE (R173). -/
def execSetNoticeEnable (p : List Byte) (s : State) : Host.Outcome State Fault Refusal :=
  takeEvent s (hostServe p (enableHandler p))

/-- RESTART (R171): the restart acts on every block, and then the response is assembled. -/
def execHostRestart (p : List Byte) (s : State) : Host.Outcome State Fault Refusal :=
  takeEvent s (hostServe p (noParameters p fun d => (restart d, accepted [])))

/-- HOST_BAD_FRAME (R163). -/
def execHostBadFrame (s : State) : Host.Outcome State Fault Refusal :=
  takeEvent s fun d => if running d then badHostFrame d else d

/-- HOST_UNKNOWN_REQUEST (R163, R192): codes 0x01 to 0x16 name requests. -/
def execHostUnknownRequest (code : Byte) (s : State) : Host.Outcome State Fault Refusal :=
  takeEvent s fun d =>
    if running d ∧ (code = 0x00 ∨ 0x16 < code.toNat) then prepare (refusal .unknownRequest) d else d

/-- RESPONSE_COMPLETION (R164). -/
def execResponseCompletion (s : State) : Host.Outcome State Fault Refusal :=
  takeEvent s fun d =>
    match running d, d.host.response with
    | true, .preparing a => d.setHost { d.host with response := .ready a }
    | _, _ => d

end Sys2Proof.Machine
end

