-- ==== Sys2Proof/Machine/SenseLines.lean ====
section
/-! DEFINITION. Section 7.1: changes of the raw levels of S0 to S5, the line filters, and what a change of a function's
state is handed to. -/

namespace Sys2Proof.Machine

/-- A line takes new contents. -/
def setLine (l : Line) (x : SenseLine) (d : Device) : Device :=
  d.setTamper { d.tamper with lines := d.tamper.lines.set l x }

/-- The tamper source that a function is (R139). -/
def functionSource : LineFunction → Option Source
  | .case => some .case
  | .terminalCover => some .terminalCover
  | .magnet => some .magnet
  | _ => none

/-- A deferred detection is noted (R140). -/
def noteDeferred (f : LineFunction) (x : Deferred) : Deferred :=
  match f with
  | .case => { x with case := true }
  | .terminalCover => { x with terminalCover := true }
  | .magnet => { x with magnet := true }
  | _ => x

/-- A tamper function has changed from inactive to active (R139, R140). -/
def functionDetected (f : LineFunction) (d : Device) : Device :=
  match functionSource f with
  | some s =>
    if d.power.part = .initializing then d.setTamper { d.tamper with deferred := noteDeferred f d.tamper.deferred }
    else detect s none d
  | none => d

/-- A change of a function's state is handed on (Table 7-4): `before` is the part before the line's filter expired. -/
def handFunction (f : LineFunction) (before d : Device) : Device :=
  match f with
  | .none => d
  | .auxContact => auxChanged (auxPosition before) d
  | .reconnectButton =>
    if !functionActive before f && functionActive d f then reconnectPress d else d
  | _ => if !functionActive before f && functionActive d f then functionDetected f d else d

/-- The raw level of a line becomes `level`, and the line's filter acts on the change if the line is sensed (R137). -/
def changeLine (l : Line) (level : Level) (d : Device) : Device :=
  let line := d.tamper.lines[l]
  if line.raw = level then d
  else if sensed d l then
    setLine l { line with raw := level, timing := levelActive d.tamper.table[l] level != line.filtered } d
  else setLine l { line with raw := level } d

/-- The filter of a line expires: the filtered state takes the level, and any change of the function is handed on
(R137, R139). -/
def expireLine (l : Line) (d : Device) : Device :=
  let line := d.tamper.lines[l]
  if sensed d l && line.timing then
    handFunction d.tamper.table[l].function d
      (setLine l { line with filtered := levelActive d.tamper.table[l] line.raw, timing := false } d)
  else d

/-- SENSE_LINE_CHANGE (R137). -/
def execSenseLineChange (l : Line) (level : Level) (s : State) : Host.Outcome State Fault Refusal :=
  takeEvent s (changeLine l level)

/-- SENSE_FILTER_EXPIRY (R137). -/
def execSenseFilterExpiry (l : Line) (s : State) : Host.Outcome State Fault Refusal :=
  takeEvent s (expireLine l)

end Sys2Proof.Machine
end

