-- ==== Sys2Proof/Machine/ServicePort.lean ====
section
/-! DEFINITION. Sections 10.2 and 10.3: frames at the service port, the window, the reads, the changing requests,
configuration items, and commissioning. -/

namespace Sys2Proof.Machine

/-! ### Requests and responses (R179, R180, R181) -/

/-- A request's handler that may answer nothing at its arrival, as COMMISSION does (R184). -/
abbrev LateHandler := Device → Device × Option Answer

/-- A handler that answers at the arrival. -/
def answering (h : Handler) : LateHandler := fun d => ((h d).1, some (h d).2)

/-- A changing request: the window is judged first, then the form (R181). -/
def changing (h : Handler) : Handler := fun d =>
  if d.codes.windowMinutes = 0 then (d, refusal .windowClosed) else h d

/-- A response is assembled and waits for its transmission (R180). -/
def replyWith (request : Byte) (answer : Option Answer) (d : Device) : Device :=
  match answer with
  | none => d
  | some a => d.setService { d.service with waiting := some { request := request, answer := a } }

/-- The service port's assembly hunts again, its frame being complete (R179). -/
def huntService (d : Device) : Device := d.setService { d.service with assembly := .hunting }

/-- A request arrival at the running port: discarded while a response waits, BUSY during a COMMISSION write (R180, R184;
log 22). -/
def serviceServe (code : Byte) (parameters : List Byte) (h : LateHandler) (d : Device) : Device :=
  if running d && admitsFrame d.service.assembly code parameters then
    let taken := huntService d
    if taken.service.waiting.isSome then taken
    else if taken.service.commissioning.isSome then replyWith code (some (refusal .busy)) taken
    else replyWith code (h taken).2 (h taken).1
  else d

/-- The frame of a STATUS payload (R98, R191). -/
def statusFrame (payload : List Byte) : List Byte := characterFrame Config.kindStatus payload

/-- The frame of a response (R180, R191). -/
def replyFrame (r : Reply) : List Byte :=
  characterFrame Config.kindResponse
    ([r.request, BitVec.ofNat 8 (resultCode r.answer.result)] ++ r.answer.data)

/-! ### Reads -/

/-- A paged read: one page number, below the page count (R180). -/
def pagedRead (parameters : List Byte) (fields : Device → List (List Byte)) : Handler := fun d =>
  match parameters with
  | [page] =>
    match pageOf (fields d) page.toNat with
    | some data => (d, accepted data)
    | none => (d, refusal .badValue)
  | _ => (d, refusal .badValue)

/-- A page of a reported tariff at the service port (R194). -/
def tariffPage (t : Tariff) (confirmed : Option Bool) (page : Byte) : List Byte :=
  [page, 0x02] ++ (if page = 0x00 then tariffPage0 t else tariffPage1 t confirmed)

/-- READ_TARIFF (R63, R180). -/
def readTariffHandler (parameters : List Byte) : Handler := fun d =>
  match parameters with
  | [selector, page] =>
    if 0x01 < selector.toNat ∨ 0x01 < page.toNat then (d, refusal .badValue)
    else if selector = 0x00 then (d, accepted (tariffPage d.tariffs.active none page))
    else
      match d.tariffs.pending with
      | none => (d, refusal .noPending)
      | some p => (d, accepted (tariffPage p.tariff (some p.confirmed) page))
  | _ => (d, refusal .badValue)

/-- READ_LOG of the service port (R157). The spec lays its data out for the meter host port alone (R192); that layout is
used here too (log 46, DESIGN CHOICE). -/
def serviceLogHandler : Handler := fun d =>
  (d.setLog { d.log with serviceCursor := cursorAfter Config.serviceBatch d.log.serviceCursor d.log },
    accepted (readLogData Config.serviceBatch d.log.serviceCursor d.log))

/-- The service cursor moves, and the answer carries it (R158). -/
def moveServiceCursor (number : Nat) : Handler := fun d =>
  (d.setLog { d.log with serviceCursor := number }, accepted (beBytes 5 number))

/-! ### Configuration items (R183) -/

/-- A configuration item with its value as stored (Table 10-3). -/
inductive ConfigWrite
  | lowLevel (mills : Nat)
  | friendlyFloor (mills : Int)
  | emergencyAmount (mills : Nat)
  | emergencyThreshold (mills : Nat)
  | friendlyWindow (index : Fin 4) (entry : FriendlyWindow)
  | codeValidityDays (days : Nat)
  | linkRate (rate : LinkRate)
  | loadLimit (watts : Nat)
  | bypassThreshold (quanta : Nat)
  | reverseThreshold (quanta : Nat)
  | sourceAction (source : Source) (action : SourceAction)
deriving DecidableEq, Repr

/-- The highest link rate not above a value, with 1,200 as the floor (R94). -/
def rateOf (n : Nat) : LinkRate :=
  if n < 2400 then .r1200 else if n < 4800 then .r2400 else if n < 9600 then .r4800 else .r9600

/-- A threshold clamped to 1 to 255 (R142). -/
def clampThreshold (n : Nat) : Nat := max 1 (min 255 n)

/-- A friendly floor clamped to its bounds (R24). -/
def clampFloor (x : Int) : Int := max (-(Config.amountTop : Int)) (min 0 x)

/-- A friendly window entry, each field clamped to its upper bound (R35). -/
def clampWindow (start finish mask : Nat) : FriendlyWindow :=
  { start := min start 1439, finish := min finish 1439, mask := min mask 127 }

/-- A source action of a byte: beyond the three, OPEN_BLOCK (R145). -/
def actionOf (b : Byte) : SourceAction := if b = 0x00 then .log else if b = 0x01 then .open else .openBlock

/-- The item and the value as stored that parameters carry; none where they do not match the form, name no item, or an
index out of range (R183, log 18). -/
def configWrite (parameters : List Byte) : Option ConfigWrite :=
  match parameters with
  | [0x00, a, b, c] => some (.lowLevel (min (beNat [a, b, c]) Config.amountTop))
  | [0x01, a, b, c, e] => some (.friendlyFloor (clampFloor (beSigned [a, b, c, e])))
  | [0x02, a, b, c] => some (.emergencyAmount (min (beNat [a, b, c]) Config.amountTop))
  | [0x03, a, b, c] => some (.emergencyThreshold (min (beNat [a, b, c]) Config.amountTop))
  | [0x04, i, a, b, c, e, mask] =>
    if h : i.toNat < 4 then
      some (.friendlyWindow ⟨i.toNat, h⟩ (clampWindow (beNat [a, b]) (beNat [c, e]) mask.toNat))
    else none
  | [0x05, a, b] => some (.codeValidityDays (min (beNat [a, b]) 999))
  | [0x06, a, b] => some (.linkRate (rateOf (beNat [a, b])))
  | [0x07, a, b, c] => some (.loadLimit (min (beNat [a, b, c]) Config.loadTop))
  | [0x08, a] => some (.bypassThreshold (clampThreshold a.toNat))
  | [0x09, a] => some (.reverseThreshold (clampThreshold a.toNat))
  | [0x0A, i, a] => (sourceOfNumber i.toNat).map fun s => .sourceAction s (actionOf a)
  | _ => none

/-- The CONFIG_CHANGED record of a write (R183). -/
def configRecord : ConfigWrite → LogData
  | .lowLevel n => .configChanged .lowLevel 0 (some n)
  | .friendlyFloor x => .configChanged .friendlyFloor 0 (some x)
  | .emergencyAmount n => .configChanged .emergencyAmount 0 (some n)
  | .emergencyThreshold n => .configChanged .emergencyThreshold 0 (some n)
  | .friendlyWindow i _ => .configChanged .friendlyWindow i.val none
  | .codeValidityDays n => .configChanged .codeValidityDays 0 (some n)
  | .linkRate r => .configChanged .linkRate 0 (some (rateNumber r))
  | .loadLimit n => .configChanged .loadLimit 0 (some n)
  | .bypassThreshold n => .configChanged .bypassThreshold 0 (some n)
  | .reverseThreshold n => .configChanged .reverseThreshold 0 (some n)
  | .sourceAction s a => .configChanged .sourceAction (sourceNumber s).val (some (actionCode a))

/-- The response data of a write: the item, its index and the value as stored (R183, log 18). -/
def configData : ConfigWrite → List Byte
  | .lowLevel n => [0x00] ++ beBytes 3 n
  | .friendlyFloor x => [0x01] ++ signedBytes 4 x
  | .emergencyAmount n => [0x02] ++ beBytes 3 n
  | .emergencyThreshold n => [0x03] ++ beBytes 3 n
  | .friendlyWindow i w => [0x04] ++ beBytes 1 i.val ++ windowEntryBytes w
  | .codeValidityDays n => [0x05] ++ beBytes 2 n
  | .linkRate r => [0x06] ++ beBytes 2 (rateNumber r)
  | .loadLimit n => [0x07] ++ beBytes 3 n
  | .bypassThreshold n => [0x08] ++ beBytes 1 n
  | .reverseThreshold n => [0x09] ++ beBytes 1 n
  | .sourceAction s a => [0x0A] ++ beBytes 1 (sourceNumber s) ++ nameByte (actionCode a)

/-- A rate write stops the link, stores the rate, and starts the link again (R94). -/
def writeRate (r : LinkRate) (d : Device) : Device :=
  let stopped := stopLink d
  startLink (stopped.setLink { stopped.link with rate := r })

/-- A source's action is written; the reason of a latched source is evaluated (R145). -/
def writeAction (s : Source) (a : SourceAction) (d : Device) : Device :=
  let written := setSource s { sourceEntry d s with action := a } d
  if (sourceEntry d s).latched then evaluateTamper written else written

/-- The owning block takes the stored value, with the effects its rule gives (R25, R79, R94, R132, R142, R145). -/
def configEffect (w : ConfigWrite) (d : Device) : Device :=
  match w with
  | .lowLevel n => recomputeCredit (d.setSettings { d.settings with lowLevel := n })
  | .friendlyFloor x => recomputeCreditReason (d.setSettings { d.settings with friendlyFloor := x })
  | .emergencyAmount n => d.setSettings { d.settings with emergencyAmount := n }
  | .emergencyThreshold n => d.setSettings { d.settings with emergencyThreshold := n }
  | .friendlyWindow i e =>
    recomputeCreditReason (d.setSettings { d.settings with windows := d.settings.windows.set i e })
  | .codeValidityDays n => d.setCodes { d.codes with validityDays := n }
  | .linkRate r => writeRate r d
  | .loadLimit n => writeLimit n d
  | .bypassThreshold n => d.setTamper { d.tamper with bypassThreshold := n }
  | .reverseThreshold n => d.setTamper { d.tamper with reverseThreshold := n }
  | .sourceAction s a => writeAction s a d

/-- WRITE_CONFIG with the window OPEN: the record, then the effect (R183). -/
def configHandler (parameters : List Byte) : Handler := fun d =>
  match configWrite parameters with
  | none => (d, refusal .badValue)
  | some w => (configEffect w (addRecord (configRecord w) d), accepted (configData w))

/-! ### The other changing requests -/

/-- A function of its name byte (Table 11-2). -/
def functionOf (b : Byte) : Option LineFunction :=
  [LineFunction.none, .case, .terminalCover, .magnet, .auxContact, .reconnectButton][b.toNat]?

/-- A polarity of its name byte: true is ACTIVE_HIGH (Table 11-2). -/
def polarityOf (b : Byte) : Option Bool := [true, false][b.toNat]?

/-- A filter time as stored (R136). -/
def clampFilter (n : Nat) : Nat := max 10 (min 2550 n) / 10 * 10

/-- A function table entry is written: its line re-arms, and the Relay Controller takes a change of the auxiliary
position (R136). -/
def writeTable (l : Line) (e : LineEntry) (d : Device) : Device :=
  auxChanged (auxPosition d)
    (d.setTamper
      { d.tamper with
        table := d.tamper.table.set l e, lines := d.tamper.lines.set l (rearmLine e d.tamper.lines[l]) })

/-- WRITE_FUNCTION_TABLE with the window OPEN (R136). -/
def tableHandler (parameters : List Byte) : Handler := fun d =>
  match parameters with
  | [l, f, p, a, b] =>
    match functionOf f, polarityOf p with
    | some function, some polarity =>
      if h : l.toNat < 6 then
        (writeTable ⟨l.toNat, h⟩
            { function := function, activeHigh := polarity, filterTime := clampFilter (beNat [a, b]) } d,
          accepted [])
      else (d, refusal .badValue)
    | _, _ => (d, refusal .badValue)
  | _ => (d, refusal .badValue)

/-- SET_TIME of the service port with the window OPEN: any time, with no clamp (R50). -/
def serviceTimeHandler (parameters : List Byte) : Handler := fun d =>
  match timeOf parameters with
  | none => (d, refusal .badValue)
  | some t => if Config.lastSecond < t.second then (d, refusal .badValue) else (applySetTime t d, accepted [])

/-- A put or cancel that the service port has accepted raises TARIFF (R58, R59). -/
def noticeTariff (h : Handler) : Handler := fun d =>
  if (h d).2.result = .accepted then (raiseNotice .tariff (h d).1, (h d).2) else h d

/-- SERVICE_HOLD and SERVICE_RELEASE with the window OPEN (R113). -/
def holdHandler (hold : Bool) : Handler := fun d =>
  let held := setReason .service hold d
  (held, accepted (reasonsByte held.relay.reasons))

/-- RETRY_RELAY with the window OPEN (R122, R123). -/
def retryHandler : Handler := fun d =>
  let mended := d.setRelay { d.relay with fault := none }
  match d.relay.state with
  | .opening _ => (d, refusal .busy)
  | .closing _ => (d, refusal .busy)
  | .stuck _ =>
    (startAttempt (if d.relay.reasons.isEmpty then .closed else .open) false mended, accepted [])
  | _ => (mended, accepted [])

/-- Meter test mode begins with its accumulators and timer at 0 (R16). -/
def beginTest (d : Device) : Device :=
  d.setIntake
    { d.intake with
      testImport := Vector.replicate 3 0, testExport := Vector.replicate 3 0, testActive := true, testTimer := 0 }

/-- TEST_START with the window OPEN (Table 1-7); in UNCOMMISSIONED the window cannot be open (log 24). -/
def testStartHandler : Handler := fun d =>
  match d.power.part with
  | .inService => (beginTest (endTest .endRequest d), accepted [])
  | .accountLost => (d, refusal .accountLost)
  | _ => (d, refusal .windowClosed)

/-- TEST_END with the window OPEN (R19). -/
def testEndHandler : Handler := fun d => (endTest .endRequest d, accepted [])

/-- What RESTORE_ACCOUNT carries, clamped into range (R43, step 1). -/
structure Restored where
  balance : Int
  debt : Nat
  percent : Nat
  floor : Nat
deriving DecidableEq, Repr

/-- An amount clamped to the balance's bounds (R23). -/
def clampBalance (x : Int) : Int := max (-(Config.moneyTop : Int)) (min Config.moneyTop x)

/-- The clamped values of twelve parameters (R43, step 1). -/
def restoredOf (parameters : List Byte) : Option Restored :=
  if parameters.length = 12 then
    some
      { balance := clampBalance (beSigned (parameters.take 4)),
        debt := min (beNat ((parameters.drop 4).take 4)) Config.moneyTop,
        percent := min (beNat ((parameters.drop 8).take 1)) 100,
        floor := min (beNat (parameters.drop 9)) Config.floorTop }
  else none

/-- Steps 2 to 7 of RESTORE_ACCOUNT (R43). -/
def restoreAccount (r : Restored) (d : Device) : Device :=
  let account := d.setAccount
    { d.account with balance := r.balance, debt := r.debt, recoveryPercent := r.percent, emergency := 0 }
  let floored := (account.setResidue 0).setCodes { d.codes with floor := r.floor }
  let served := floored.setPower { d.power with part := .inService }
  handAccountReasons (recomputeCreditState (addRecord (.accountRestored r.balance r.debt) served))

/-- RESTORE_ACCOUNT with the window OPEN (R43). -/
def restoreHandler (parameters : List Byte) : Handler := fun d =>
  match restoredOf parameters with
  | none => (d, refusal .badValue)
  | some r =>
    if d.power.part = .accountLost then (restoreAccount r d, accepted []) else (d, refusal .wrongState)

/-- CLEAR_LINK_COUNTS with the window OPEN (R96). -/
def clearCountsHandler : Handler := fun d =>
  (d.setLink { d.link with parityErrors := 0, framingErrors := 0, badFrames := 0 }, accepted [])

/-! ### Commissioning (R184, R185) -/

/-- COMMISSION: a wrong count is refused by the form, then the part state is judged, then the digits (log 20). -/
def commissionHandler (parameters : List Byte) : LateHandler := fun d =>
  if parameters.length ≠ 36 then (d, some (refusal .badValue))
  else if d.power.part ≠ .uncommissioned then (d, some (refusal .alreadyCommissioned))
  else
    match digitsOf parameters with
    | none => (d, some (refusal .badValue))
    | some digits =>
      (d.setService
        { d.service with commissioning := some { serial := digits.take 12, key := digits.drop 12 } }, none)

/-- The account's commissioning values (R44). -/
def commissionedAccount (a : Account) : Account :=
  { a with balance := 0, emergency := 0, debt := 0, recoveryPercent := 0, purchased := 0, charged := 0 }

/-- COMMISSION completion (R185), the One-Time Store written and steps 1 to 4. -/
def completeCommission (store : OneTime) (d : Device) : Device :=
  let written := d.setOneTime (some store)
  let served := written.setPower { d.power with part := .inService }
  let account := recomputeCreditState (served.setAccount (commissionedAccount d.account))
  let listed := account.setCodes { account.codes with used := [], floor := 0 }
  let handed := handAccountReasons listed
  handed.setService
    { handed.service with
      commissioning := none,
      waiting := some { request := 0x4D, answer := accepted (digitBytes store.serial) } }

/-! ### The requests of Table 10-2, by their codes (R191) -/

/-- READ_STATUS (R182). -/
def handleReadStatus (p : List Byte) : LateHandler := answering (pagedRead p serviceStatus)

/-- READ_ACCOUNT (R45). -/
def handleReadAccount (p : List Byte) : LateHandler := answering (noParameters p (reading accountSettingsData))

/-- READ_TARIFF (R63). -/
def handleReadTariff (p : List Byte) : LateHandler := answering (readTariffHandler p)

/-- READ_DEMAND (R133). -/
def handleReadDemand (p : List Byte) : LateHandler := answering (pagedRead p fun d => demandFields d.load)

/-- READ_TAMPER (R151). -/
def handleReadTamper (p : List Byte) : LateHandler := answering (pagedRead p tamperFields)

/-- READ_LINK (R96). -/
def handleReadLink (p : List Byte) : LateHandler := answering (noParameters p (reading linkData))

/-- READ_ENERGY (R182). -/
def handleReadEnergy (p : List Byte) : LateHandler := answering (noParameters p (reading energyData))

/-- READ_CODE_LIST (R83). -/
def handleReadCodeList (p : List Byte) : LateHandler := answering (pagedRead p fun d => codeListFields d.codes)

/-- READ_CODE_RESULT (R88). -/
def handleReadCodeResult (p : List Byte) : LateHandler :=
  answering (noParameters p (reading fun d => lastResultBytes d.service.lastResult))

/-- READ_LOG (R157). -/
def handleServiceReadLog (p : List Byte) : LateHandler := answering (noParameters p serviceLogHandler)

/-- SEEK_OLDEST (R158). -/
def handleServiceSeekOldest (p : List Byte) : LateHandler :=
  answering (noParameters p fun d => moveServiceCursor (oldestNumber d.log.serviceCursor d.log) d)

/-- SEEK_NEWEST (R158). -/
def handleServiceSeekNewest (p : List Byte) : LateHandler :=
  answering (noParameters p fun d => moveServiceCursor (newestNumber d.log.serviceCursor d.log) d)

/-- SUBMIT_CODE (R72). -/
def handleServiceSubmitCode (p : List Byte) : LateHandler := answering (submitPort .service p)

/-- COMMISSION (R184). -/
def handleCommission (p : List Byte) : LateHandler := commissionHandler p

/-- WRITE_CONFIG (R183). -/
def handleWriteConfig (p : List Byte) : LateHandler := answering (changing (configHandler p))

/-- WRITE_FUNCTION_TABLE (R136). -/
def handleWriteFunctionTable (p : List Byte) : LateHandler := answering (changing (tableHandler p))

/-- SET_TIME (R50). -/
def handleServiceSetTime (p : List Byte) : LateHandler := answering (changing (serviceTimeHandler p))

/-- PUT_PENDING_TARIFF (R58). -/
def handleServicePutPendingTariff (p : List Byte) : LateHandler := answering (changing (noticeTariff (putTariff p)))

/-- CANCEL_PENDING (R59). -/
def handleServiceCancelPending (p : List Byte) : LateHandler :=
  answering (changing (noticeTariff (noParameters p cancelPending)))

/-- SERVICE_HOLD (R113). -/
def handleServiceHold (p : List Byte) : LateHandler := answering (changing (noParameters p (holdHandler true)))

/-- SERVICE_RELEASE (R113). -/
def handleServiceRelease (p : List Byte) : LateHandler := answering (changing (noParameters p (holdHandler false)))

/-- RETRY_RELAY (R122, R123). -/
def handleRetryRelay (p : List Byte) : LateHandler := answering (changing (noParameters p retryHandler))

/-- TEST_START (R16). -/
def handleTestStart (p : List Byte) : LateHandler := answering (changing (noParameters p testStartHandler))

/-- TEST_END (R19). -/
def handleTestEnd (p : List Byte) : LateHandler := answering (changing (noParameters p testEndHandler))

/-- RESTORE_ACCOUNT (R43). -/
def handleRestoreAccount (p : List Byte) : LateHandler := answering (changing (restoreHandler p))

/-- CLEAR_LINK_COUNTS (R96). -/
def handleClearLinkCounts (p : List Byte) : LateHandler := answering (changing (noParameters p clearCountsHandler))

/-- RESTART (R189). -/
def handleServiceRestart (p : List Byte) : LateHandler :=
  answering (changing (noParameters p fun d => (restart d, accepted [])))

/-- The handler of a request code; none where the code names no request (Table 10-2, R191). -/
def serviceHandler (code : Nat) (p : List Byte) : Option LateHandler :=
  match code with
  | 0x40 => some (handleReadStatus p)
  | 0x41 => some (handleReadAccount p)
  | 0x42 => some (handleReadTariff p)
  | 0x43 => some (handleReadDemand p)
  | 0x44 => some (handleReadTamper p)
  | 0x45 => some (handleReadLink p)
  | 0x46 => some (handleReadEnergy p)
  | 0x47 => some (handleReadCodeList p)
  | 0x48 => some (handleReadCodeResult p)
  | 0x49 => some (handleServiceReadLog p)
  | 0x4A => some (handleServiceSeekOldest p)
  | 0x4B => some (handleServiceSeekNewest p)
  | 0x4C => some (handleServiceSubmitCode p)
  | 0x4D => some (handleCommission p)
  | 0x4E => some (handleWriteConfig p)
  | 0x4F => some (handleWriteFunctionTable p)
  | 0x50 => some (handleServiceSetTime p)
  | 0x51 => some (handleServicePutPendingTariff p)
  | 0x52 => some (handleServiceCancelPending p)
  | 0x53 => some (handleServiceHold p)
  | 0x54 => some (handleServiceRelease p)
  | 0x55 => some (handleRetryRelay p)
  | 0x56 => some (handleTestStart p)
  | 0x57 => some (handleTestEnd p)
  | 0x58 => some (handleRestoreAccount p)
  | 0x59 => some (handleClearLinkCounts p)
  | 0x5A => some (handleServiceRestart p)
  | _ => none

/-- A complete and valid frame at the service port, by its kind (R179, R181). -/
def serviceFrame (kind : Byte) (payload : List Byte) : Device → Device :=
  serviceServe kind payload
    ((serviceHandler kind.toNat payload).getD (answering fun d => (d, refusal .unknownRequest)))

/-- The service port takes a good character (R179). -/
def serviceCharacter (c : Byte) (d : Device) : Device :=
  if running d then
    match receive c d.service.assembly with
    | (a, .nothing) => d.setService { d.service with assembly := a }
    | (_, .bad) => huntService d
    | (_, .frame kind payload) => serviceFrame kind payload (huntService d)
  else d

/-! ### The commands -/

/-- READ_STATUS of the service port (R182). -/
def execReadStatus (p : List Byte) (s : State) : Host.Outcome State Fault Refusal :=
  takeEvent s (serviceServe 0x40 p (handleReadStatus p))

/-- READ_ACCOUNT of the service port (R45). -/
def execReadAccount (p : List Byte) (s : State) : Host.Outcome State Fault Refusal :=
  takeEvent s (serviceServe 0x41 p (handleReadAccount p))

/-- READ_TARIFF of the service port (R63). -/
def execReadTariff (p : List Byte) (s : State) : Host.Outcome State Fault Refusal :=
  takeEvent s (serviceServe 0x42 p (handleReadTariff p))

/-- READ_DEMAND of the service port (R133). -/
def execReadDemand (p : List Byte) (s : State) : Host.Outcome State Fault Refusal :=
  takeEvent s (serviceServe 0x43 p (handleReadDemand p))

/-- READ_TAMPER of the service port (R151). -/
def execReadTamper (p : List Byte) (s : State) : Host.Outcome State Fault Refusal :=
  takeEvent s (serviceServe 0x44 p (handleReadTamper p))

/-- READ_LINK of the service port (R96). -/
def execReadLink (p : List Byte) (s : State) : Host.Outcome State Fault Refusal :=
  takeEvent s (serviceServe 0x45 p (handleReadLink p))

/-- READ_ENERGY of the service port (R182). -/
def execReadEnergy (p : List Byte) (s : State) : Host.Outcome State Fault Refusal :=
  takeEvent s (serviceServe 0x46 p (handleReadEnergy p))

/-- READ_CODE_LIST of the service port (R83). -/
def execReadCodeList (p : List Byte) (s : State) : Host.Outcome State Fault Refusal :=
  takeEvent s (serviceServe 0x47 p (handleReadCodeList p))

/-- READ_CODE_RESULT of the service port (R88). -/
def execReadCodeResult (p : List Byte) (s : State) : Host.Outcome State Fault Refusal :=
  takeEvent s (serviceServe 0x48 p (handleReadCodeResult p))

/-- READ_LOG of the service port (R157). -/
def execServiceReadLog (p : List Byte) (s : State) : Host.Outcome State Fault Refusal :=
  takeEvent s (serviceServe 0x49 p (handleServiceReadLog p))

/-- SEEK_OLDEST of the service port (R158). -/
def execServiceSeekOldest (p : List Byte) (s : State) : Host.Outcome State Fault Refusal :=
  takeEvent s (serviceServe 0x4A p (handleServiceSeekOldest p))

/-- SEEK_NEWEST of the service port (R158). -/
def execServiceSeekNewest (p : List Byte) (s : State) : Host.Outcome State Fault Refusal :=
  takeEvent s (serviceServe 0x4B p (handleServiceSeekNewest p))

/-- SUBMIT_CODE of the service port (R72). -/
def execServiceSubmitCode (p : List Byte) (s : State) : Host.Outcome State Fault Refusal :=
  takeEvent s (serviceServe 0x4C p (handleServiceSubmitCode p))

/-- COMMISSION of the service port (R184). -/
def execCommission (p : List Byte) (s : State) : Host.Outcome State Fault Refusal :=
  takeEvent s (serviceServe 0x4D p (handleCommission p))

/-- WRITE_CONFIG of the service port (R183). -/
def execWriteConfig (p : List Byte) (s : State) : Host.Outcome State Fault Refusal :=
  takeEvent s (serviceServe 0x4E p (handleWriteConfig p))

/-- WRITE_FUNCTION_TABLE of the service port (R136). -/
def execWriteFunctionTable (p : List Byte) (s : State) : Host.Outcome State Fault Refusal :=
  takeEvent s (serviceServe 0x4F p (handleWriteFunctionTable p))

/-- SET_TIME of the service port (R50). -/
def execServiceSetTime (p : List Byte) (s : State) : Host.Outcome State Fault Refusal :=
  takeEvent s (serviceServe 0x50 p (handleServiceSetTime p))

/-- PUT_PENDING_TARIFF of the service port (R58). -/
def execServicePutPendingTariff (p : List Byte) (s : State) : Host.Outcome State Fault Refusal :=
  takeEvent s (serviceServe 0x51 p (handleServicePutPendingTariff p))

/-- CANCEL_PENDING of the service port (R59). -/
def execServiceCancelPending (p : List Byte) (s : State) : Host.Outcome State Fault Refusal :=
  takeEvent s (serviceServe 0x52 p (handleServiceCancelPending p))

/-- SERVICE_HOLD of the service port (R113). -/
def execServiceHold (p : List Byte) (s : State) : Host.Outcome State Fault Refusal :=
  takeEvent s (serviceServe 0x53 p (handleServiceHold p))

/-- SERVICE_RELEASE of the service port (R113). -/
def execServiceRelease (p : List Byte) (s : State) : Host.Outcome State Fault Refusal :=
  takeEvent s (serviceServe 0x54 p (handleServiceRelease p))

/-- RETRY_RELAY of the service port (R122, R123). -/
def execRetryRelay (p : List Byte) (s : State) : Host.Outcome State Fault Refusal :=
  takeEvent s (serviceServe 0x55 p (handleRetryRelay p))

/-- TEST_START of the service port (R16). -/
def execTestStart (p : List Byte) (s : State) : Host.Outcome State Fault Refusal :=
  takeEvent s (serviceServe 0x56 p (handleTestStart p))

/-- TEST_END of the service port (R19). -/
def execTestEnd (p : List Byte) (s : State) : Host.Outcome State Fault Refusal :=
  takeEvent s (serviceServe 0x57 p (handleTestEnd p))

/-- RESTORE_ACCOUNT of the service port (R43). -/
def execRestoreAccount (p : List Byte) (s : State) : Host.Outcome State Fault Refusal :=
  takeEvent s (serviceServe 0x58 p (handleRestoreAccount p))

/-- CLEAR_LINK_COUNTS of the service port (R96). -/
def execClearLinkCounts (p : List Byte) (s : State) : Host.Outcome State Fault Refusal :=
  takeEvent s (serviceServe 0x59 p (handleClearLinkCounts p))

/-- RESTART of the service port (R189). -/
def execServiceRestart (p : List Byte) (s : State) : Host.Outcome State Fault Refusal :=
  takeEvent s (serviceServe 0x5A p (handleServiceRestart p))

/-- COMMISSION_COMPLETION (R185): a write is in flight only on mains in UNCOMMISSIONED (log 2). -/
def execCommissionCompletion (s : State) : Host.Outcome State Fault Refusal :=
  takeEvent s fun d =>
    match d.service.commissioning with
    | some store => if running d ∧ d.power.part = .uncommissioned then completeCommission store d else d
    | none => d

/-- SERVICE_UNKNOWN_REQUEST (R181): kinds 0x40 to 0x5A name requests (R191). -/
def execServiceUnknownRequest (kind : Byte) (payload : List Byte) (s : State) :
    Host.Outcome State Fault Refusal :=
  takeEvent s fun d =>
    if kind.toNat < 0x40 ∨ 0x5A < kind.toNat then
      serviceServe kind payload (answering fun d => (d, refusal .unknownRequest)) d
    else d

/-- SERVICE_GAP_EXPIRY (R179). -/
def execServiceGapExpiry (s : State) : Host.Outcome State Fault Refusal :=
  takeEvent s fun d => if running d then huntService d else d

/-- SERVICE_GOOD_CHARACTER (R179). One that ends a frame brings about what the frame does (log 10). -/
def execServiceGoodCharacter (c : Byte) (s : State) : Host.Outcome State Fault Refusal :=
  takeEvent s (serviceCharacter c)

/-- SERVICE_DAMAGED_CHARACTER (R179). -/
def execServiceDamagedCharacter (s : State) : Host.Outcome State Fault Refusal :=
  takeEvent s fun d => if running d then huntService d else d

/-- SERVICE_BAD_FRAME_CHECK (R179): no count is kept. -/
def execServiceBadFrameCheck (s : State) : Host.Outcome State Fault Refusal :=
  takeEvent s fun d => if running d then huntService d else d

/-- SERVICE_RESPONSE_TRANSMIT (R180): the waiting response begins its transmission. -/
def execServiceResponseTransmit (s : State) : Host.Outcome State Fault Refusal :=
  takeEvent s fun d =>
    if running d ∧ d.service.sending = none then
      d.setService { d.service with sending := d.service.waiting, waiting := none }
    else d

/-- SERVICE_RESPONSE_END (R180): a waiting response begins at the end of the one in transmission. -/
def execServiceResponseEnd (s : State) : Host.Outcome State Fault Refusal :=
  takeEvent s fun d =>
    if running d ∧ d.service.sending ≠ none then
      d.setService { d.service with sending := d.service.waiting, waiting := none }
    else d

end Sys2Proof.Machine
end

