-- ==== Sys2Proof/Machine/PowerEvents.lean ====
section
/-! DEFINITION. Sections 10.1, 10.4 and 10.5: mains loss and return, the RESET line, INITIALIZING and its end, retained
loss, and the loss and return of all supply. -/

namespace Sys2Proof.Machine

/-! ### Starts and stops of the blocks -/

/-- The power state changes. -/
def setSupply (x : Supply) (d : Device) : Device := d.setPower { d.power with supply := x }

/-- The part state changes. -/
def setPart (x : PartState) (d : Device) : Device := d.setPower { d.power with part := x }

/-- The initialization time starts or stops (R186). -/
def setInitTiming (x : Bool) (d : Device) : Device := d.setPower { d.power with initTiming := x }

/-- Pulse Intake is turned on with its filters WAITING (R2). -/
def startIntake (d : Device) : Device := d.setIntake { d.intake with filters := Vector.replicate 3 .waiting }

/-- The address of a strap level (R162). -/
def strapAddress (strap : Level) : Byte :=
  match strap with
  | .low => 0x24
  | .high => 0x25

/-- The meter host port starts: the strap is sampled, no transaction is in progress and the buffer is EMPTY (R162). -/
def startHost (strap : Level) (d : Device) : Device :=
  d.setHost { d.host with address := strapAddress strap, transaction := .idle, response := .empty }

/-- The meter host port stops at a mains loss: a transaction in progress is abandoned, a write cut short being no
request arrival (R162). The buffer stands until the next start (R175). -/
def stopHost (d : Device) : Device := d.setHost { d.host with transaction := .idle }

/-- The service port starts (R179). -/
def startService (d : Device) : Device := huntService d

/-- The service port stops: frame, responses and a COMMISSION write are abandoned (R179, R185). -/
def stopService (d : Device) : Device :=
  d.setService { d.service with assembly := .hunting, sending := none, waiting := none, commissioning := none }

/-- Pulse Intake, the two ports and the link start (R178 step 4, R187 step 8). -/
def startPorts (strap : Level) (d : Device) : Device :=
  startLink (startService (startHost strap (startIntake d)))

/-! ### Mains loss and return (R177, R178) -/

/-- A mains loss (R177). -/
def loseMains (d : Device) : Device :=
  let recorded := addRecord .powerFail (setSupply .battery d)
  let aborted := abortCodes (endTest .mainsLoss recorded)
  let cleared := aborted.setKeypad (clearEntry aborted.keypad)
  stopMainsLines (zeroDemand (abandonOperation (stopService (stopHost (stopLink cleared)))))

/-- Day processing of a mains return, whose reason changes wait for the resolution (R178, log 13). -/
def processReturn (d : Device) : Device :=
  setSupply .mains (dayProcessing (rearmLines mainsFunction (addRecord .powerReturn d)))

/-- A mains return (R178). -/
def returnMains (strap : Level) (d : Device) : Device := startPorts strap (resolveRelay (processReturn d))

/-! ### RESET (R186) -/

/-- Keypad Entry's volatile state at start-up (R102). -/
def resetKeypad (k : Keypad) : Keypad := { clearEntry k with outcome := none }

/-- The customer link's volatile state at start-up (R93, R96, R100, R101). -/
def resetLink (l : Link) : Link :=
  { rate := l.rate, parityErrors := 0, framingErrors := 0, badFrames := 0, assembly := .hunting,
    presence := .waitingFirst, ciuCase := .unknown, ciuVersion := none, sending := none, statusDue := false,
    periodRunning := false }

/-- The meter host port's volatile state at start-up (R163, R164, R172, R173, R87); a transaction in progress is
abandoned like one cut short by mains loss (R175). The pending set is empty until {RESTARTED} replaces it as
INITIALIZING ends (R187, step 1): the spec gives no set in between (log 44, DESIGN CHOICE). -/
def resetHost (h : HostPort) : HostPort :=
  { address := h.address, transaction := .idle, response := .empty, badFrames := 0, notices := 0,
    enabled := BitVec.allOnes 9, lastResult := none, seen := 0 }

/-- The service port's volatile state at start-up (R88, R179). -/
def resetService : ServicePort :=
  { assembly := .hunting, sending := none, waiting := none, lastResult := none, commissioning := none }

/-- Pulse Intake's volatile state at start-up (R2, R11). -/
def resetIntake (x : Intake) : Intake :=
  { x with
    filters := Vector.replicate 3 .waiting, testImport := Vector.replicate 3 0, testExport := Vector.replicate 3 0,
    testActive := false, testTimer := 0 }

/-- Every volatile item takes its start-up value; the retained store and the lines stand (R186). -/
def volatileReset (d : Device) : Device :=
  let stopped := stopMainsLines (zeroDemand d)
  { stopped with
    intake := resetIntake d.intake,
    codes := { d.codes with queue := [], inCheck := none, nextTicket := 0 },
    keypad := resetKeypad d.keypad,
    link := resetLink d.link,
    relay := { d.relay with state := .unheld },
    tamper := { stopped.tamper with deferred := noDeferred },
    log := { d.log with mark := none },
    host := resetHost d.host,
    service := resetService }

/-- INITIALIZING begins, or begins afresh (R186). -/
def enterInitializing (d : Device) : Device := setInitTiming false (setPart .initializing (volatileReset d))

/-- The RESET line is asserted: outside INITIALIZING a running test ends and codes are aborted first (R186). -/
def assertReset (d : Device) : Device :=
  let asserted := d.setPower { d.power with resetAsserted := true }
  if !alive d then asserted
  else if d.power.part = .initializing then enterInitializing asserted
  else enterInitializing (abortCodes (endTest .reset asserted))

/-- The RESET line is released; with MAINS_GOOD high the initialization time begins (R186). -/
def releaseReset (d : Device) : Device :=
  let released := d.setPower { d.power with resetAsserted := false }
  if d.power.part = .initializing ∧ d.power.supply = .mains then setInitTiming true released else released

/-- MAINS_GOOD changes during INITIALIZING (R186). -/
def changeInitMains (mainsGood : Level) (d : Device) : Device :=
  match mainsGood with
  | .low => setInitTiming false (setSupply .battery d)
  | .high => setInitTiming (!d.power.resetAsserted) (setSupply .mains d)

/-! ### Retained loss and the end of INITIALIZING (R187, R188) -/

/-- Every retained item takes its retained-loss value (Table 10-4); the One-Time Store and volatile state stand. -/
def retainedLoss (d : Device) : Device :=
  { d with
    intake := { d.intake with bands := Vector.replicate 4 0, lifetime := 0, reverse := 0, openEnergy := 0 },
    residue := 0,
    account := lossAccount,
    settings := lossSettings,
    clock := lossClock,
    tariffs := { active := lossTariff, pending := none },
    codes := { d.codes with used := [], floor := Config.floorTop, validityDays := 0, windowMinutes := 0 },
    keypad := { d.keypad with refusals := 0, lockout := 0 },
    link := { d.link with rate := .r2400 },
    relay :=
      { d.relay with
        reasons := { d.relay.reasons with load := false, remote := false, service := false },
        lastConfirmed := .open, fault := none },
    load := { d.load with limit := 0, pendingLimit := none, backoff := 0, history := [] },
    tamper :=
      { d.tamper with
        table := lossTable, bypassThreshold := Config.defaultBypass, reverseThreshold := Config.defaultReverse,
        sources := lossSources },
    log := { records := [], next := 0, hostCursor := 0, serviceCursor := 0, mark := none } }

/-- Step 2: the retained check; a failed one is a retained loss with the ACCOUNT_LOST record (R187, R188). -/
def verifyStore (d : Device) : Device :=
  if d.power.storeIntact then d
  else
    let lost := addRecord .accountLost (retainedLoss d)
    lost.setPower { lost.power with storeIntact := true }

/-- Step 3: the part state that start-up chooses (R187). -/
def chosenPart (intact : Bool) (store : Option OneTime) : PartState :=
  match store with
  | none => .uncommissioned
  | some _ => if intact then .inService else .accountLost

/-- The sources with a deferred detection (R140). -/
def deferredSources (x : Deferred) : List Source :=
  (if x.case then [.case] else []) ++ (if x.terminalCover then [.terminalCover] else [])
    ++ (if x.magnet then [.magnet] else [])

/-- Step 4: the lines are re-armed, and the deferred detections are taken, or discarded after retained loss (R187). -/
def rearmStart (intact : Bool) (first : List Source) (d : Device) : Device :=
  let cleared := d.setTamper { d.tamper with deferred := noDeferred }
  if intact then
    (takeFirst first (deferredSources d.tamper.deferred)).foldl (fun now s => detect s none now)
      (rearmLines mainsFunction cleared)
  else rearmLines (fun _ => true) cleared

/-- Step 5: CREDIT, ACCOUNT and TAMPER are handed on; ACCOUNT handed present raises its notice (R40, R187). -/
def handStart (d : Device) : Device :=
  let handed := evaluateTamper (handAccountReasons d)
  if accountReasonOf d then raiseNotice .account handed else handed

/-- Step 6: with time SET, day processing and the activation test (R187). -/
def processStart (d : Device) : Device := if d.clock.isSet then activationTest (dayProcessing d) else d

/-- The end of INITIALIZING (R187). -/
def endInitializing (strap : Level) (first : List Source) (d : Device) : Device :=
  let restarted := d.setHost { d.host with notices := noticeSet .restarted }
  let chosen := setPart (chosenPart d.power.storeIntact d.oneTime) (verifyStore restarted)
  let handed := handStart (rearmStart d.power.storeIntact first chosen)
  setInitTiming false (startPorts strap (resolveRelay (processStart handed)))

/-! ### Loss and return of all supply (R186, R188) -/

/-- The always-on domain loses its supply: the store is no longer trustworthy, and every line filter stops (log 25). -/
def loseSupply (d : Device) : Device :=
  let stopped := enterInitializing d
  let unsensed := stopped.setTamper
    { stopped.tamper with lines := stopped.tamper.lines.map fun l => { l with timing := false } }
  unsensed.setPower { unsensed.power with supply := .none, storeIntact := false }

/-- The supply rises on a part without any (R186, log 26). -/
def gainSupply (mainsGood : Level) (resetAsserted : Bool) (d : Device) : Device :=
  d.setPower
    { d.power with
      supply := (match mainsGood with | .high => .mains | .low => .battery), resetAsserted := resetAsserted,
      initTiming := mainsGood == .high && !resetAsserted }

/-! ### The commands -/

/-- MAINS_LOSS (R177). -/
def execMainsLoss (s : State) : Host.Outcome State Fault Refusal :=
  takeEvent s fun d => if running d then loseMains d else d

/-- MAINS_RETURN (R178). -/
def execMainsReturn (strap : Level) (s : State) : Host.Outcome State Fault Refusal :=
  takeEvent s fun d =>
    if d.power.supply = .battery ∧ d.power.part ≠ .initializing then returnMains strap d else d

/-- RESET_ASSERT (R186). -/
def execResetAssert (s : State) : Host.Outcome State Fault Refusal :=
  takeEvent s fun d => if d.power.resetAsserted then d else assertReset d

/-- RESET_RELEASE (R186). -/
def execResetRelease (s : State) : Host.Outcome State Fault Refusal :=
  takeEvent s fun d => if d.power.resetAsserted then releaseReset d else d

/-- The power state that a level of MAINS_GOOD gives (R177). -/
def supplyOf (mainsGood : Level) : Supply :=
  match mainsGood with
  | .high => .mains
  | .low => .battery

/-- INIT_MAINS_CHANGE (R186). -/
def execInitMainsChange (mainsGood : Level) (s : State) : Host.Outcome State Fault Refusal :=
  takeEvent s fun d =>
    if d.power.part = .initializing ∧ alive d ∧ d.power.supply ≠ supplyOf mainsGood then changeInitMains mainsGood d
    else d

/-- END_OF_INITIALIZING (R187). -/
def execEndOfInitializing (strap : Level) (first : List Source) (s : State) : Host.Outcome State Fault Refusal :=
  takeEvent s fun d =>
    if d.power.part = .initializing ∧ d.power.initTiming ∧ d.power.supply = .mains then
      endInitializing strap first d
    else d

/-- BACKUP_AND_MAINS_LOST (R188). -/
def execBackupAndMainsLost (s : State) : Host.Outcome State Fault Refusal :=
  takeEvent s fun d => if alive d then loseSupply d else d

/-- POWERED_FROM_NOTHING (R186). -/
def execPoweredFromNothing (mainsGood : Level) (resetAsserted : Bool) (s : State) :
    Host.Outcome State Fault Refusal :=
  takeEvent s fun d => if alive d then d else gainSupply mainsGood resetAsserted d

end Sys2Proof.Machine
end

