-- ==== Sys2Proof/Machine/PulseIntake.lean ====
section
/-! DEFINITION. Chapter 1: the edges of the pulse lines, the glitch filters, and the routing of a pulse arrival. -/

namespace Sys2Proof.Machine

/-- The level of a pulse line changes. -/
def setPulseLine (p : Phase) (l : Level) (d : Device) : Device :=
  d.setIntake { d.intake with pulseLines := d.intake.pulseLines.set p l }

/-- A pulse filter's state changes (R1). -/
def setFilter (p : Phase) (f : PulseFilter) (d : Device) : Device :=
  d.setIntake { d.intake with filters := d.intake.filters.set p f }

/-- A register raised by 1, rolling over to 0 past its top (R7, R8). -/
def rollUp (n top : Nat) : Nat := if n < top then n + 1 else 0

/-- A counter raised by 1, saturating at its top (R11). -/
def saturate (n top : Nat) : Nat := if n < top then n + 1 else n

/-- The band energy register and the lifetime import register take an import quantum (R5, R7, R8). -/
def countEnergy (band : Nat) (d : Device) : Device :=
  let bands :=
    if h : band < 4 then d.intake.bands.set band (rollUp d.intake.bands[band] Config.bandTop) else d.intake.bands
  d.setIntake
    { d.intake with bands := bands, lifetime := rollUp d.intake.lifetime Config.lifetimeTop }

/-- The Charge Unit charges a quantum at a price (R13, R14). -/
def chargeQuantum (price : Nat) (d : Device) : Device :=
  let sum := d.residue + price
  debit (sum / Config.residueUnits) .energy (d.setResidue (sum % Config.residueUnits))

/-- The energy-while-open accumulator takes an import quantum while the relay is not CLOSED (R10). -/
def countOpenEnergy (d : Device) : Device :=
  if d.relay.state = .closed then d
  else
    let n := d.intake.openEnergy + 1
    if d.tamper.bypassThreshold ≤ n then detect .bypass none (zeroOpenEnergy d)
    else d.setIntake { d.intake with openEnergy := n }

/-- Charging routing of an import quantum (R5): the band is taken once, at the arrival (R12). `openFirst` says whether
the energy-while-open hand-off comes before the others (log 32). -/
def chargingRouting (openFirst : Bool) (d : Device) : Device :=
  let band := bandInForce d
  let price := priceOf d band
  let measure (d : Device) : Device := countDemand (chargeQuantum price (countEnergy band d))
  -- the relay state at the arrival governs the accumulator (R10)
  let closed := d.relay.state = .closed
  let watch (d : Device) : Device := if closed then d else countOpenEnergy d
  if openFirst then measure (watch d) else watch (measure d)

/-- Reverse routing of an export quantum (R6, R9). -/
def reverseRouting (d : Device) : Device :=
  let n := d.intake.reverse + 1
  if d.tamper.reverseThreshold ≤ n then detect .reverse none (d.setIntake { d.intake with reverse := 0 })
  else d.setIntake { d.intake with reverse := n }

/-- Test routing (R17). -/
def testRouting (p : Phase) (direction : Level) (d : Device) : Device :=
  match direction with
  | .low =>
    d.setIntake
      { d.intake with testImport := d.intake.testImport.set p (saturate d.intake.testImport[p] Config.testTop) }
  | .high =>
    d.setIntake
      { d.intake with testExport := d.intake.testExport.set p (saturate d.intake.testExport[p] Config.testTop) }

/-- The routing of a quantum by the part state and its class (R3, R4). -/
def routeQuantum (p : Phase) (direction : Level) (openFirst : Bool) (d : Device) : Device :=
  if d.power.part = .inService ∧ d.intake.testActive = true then testRouting p direction d
  else
    match direction with
    | .low => chargingRouting openFirst d
    | .high => reverseRouting d

/-- PULSE_LINE_FALL (R1): the line falls; a WAITING filter times its low period from here. -/
def execPulseLineFall (p : Phase) (s : State) : Host.Outcome State Fault Refusal :=
  takeEvent s (setPulseLine p .low)

/-- PULSE_FILTER_EXPIRY (R1, R2): a WAITING filter whose line is low becomes ARMED, while the intake is on. -/
def execPulseFilterExpiry (p : Phase) (s : State) : Host.Outcome State Fault Refusal :=
  takeEvent s fun d =>
    if running d ∧ d.intake.filters[p] = .waiting ∧ d.intake.pulseLines[p] = .low then setFilter p .armed d else d

/-- PULSE_ARRIVAL (R1, R4): a rising edge on an ARMED line, while the intake is on. -/
def execPulseArrival (p : Phase) (direction : Level) (openFirst : Bool) (s : State) :
    Host.Outcome State Fault Refusal :=
  takeEvent s fun d =>
    if running d ∧ d.intake.filters[p] = .armed then
      routeQuantum p direction openFirst (setFilter p .waiting (setPulseLine p .high d))
    else d

/-- PULSE_GLITCH (R1, R2): a rising edge that the filter, WAITING or off, does not count. -/
def execPulseGlitch (p : Phase) (s : State) : Host.Outcome State Fault Refusal :=
  takeEvent s fun d =>
    if running d ∧ d.intake.filters[p] = .armed then d else setPulseLine p .high d

end Sys2Proof.Machine
end

