-- ==== Sys2Proof/Machine/RelayEvents.lean ====
section
/-! DEFINITION. Chapter 6: the ends of a drive pulse, of a confirmation window, of a retry wait and of the position
watch. A close operation whose first attempt fails gives way to an open operation where reasons stand (R116). -/

namespace Sys2Proof.Machine

/-- The drive line falls; the operation settles if it is confirmed, or if its attempt began with no auxiliary position
(R115, steps 3 and 4). -/
def endDrive (target : Position) (a : Attempt) (d : Device) : Device :=
  if a.confirmed || !a.auxAtStart then settle target d
  else d.setRelay { d.relay with state := operationState target { a with driving := false } }

/-- Whether an operation gives way to an open operation in place of a retry (R116). -/
def givesWay (target : Position) (d : Device) : Bool := target == .closed && !d.relay.reasons.isEmpty

/-- The confirmation window ends with no confirmation (R116, R117). -/
def endConfirmation (target : Position) (a : Attempt) (d : Device) : Device :=
  if a.second then
    goStuck (match target with | .open => .openFailed | .closed => .closeFailed) target d
  else if givesWay target d then startAttempt .open false d
  else d.setRelay { d.relay with state := operationState target { a with waiting := true } }

/-- The retry wait ends (R116). -/
def endRetry (target : Position) (d : Device) : Device :=
  if givesWay target d then startAttempt .open false d else startAttempt target true d

/-- The target and the attempt of an operation in flight (R114). -/
def operation : RelayState → Option (Position × Attempt)
  | .opening a => some (.open, a)
  | .closing a => some (.closed, a)
  | _ => none

/-- DRIVE_COMPLETION (R115, step 3). -/
def execDriveCompletion (s : State) : Host.Outcome State Fault Refusal :=
  takeEvent s fun d =>
    match operation d.relay.state with
    | some (target, a) => if a.driving then endDrive target a d else d
    | none => d

/-- CONFIRMATION_EXPIRY (R116, R117). The window outlasts the drive, and a confirmed attempt settles before it. -/
def execConfirmationExpiry (s : State) : Host.Outcome State Fault Refusal :=
  takeEvent s fun d =>
    match operation d.relay.state with
    | some (target, a) => if a.driving || a.confirmed || a.waiting then d else endConfirmation target a d
    | none => d

/-- RETRY_EXPIRY (R116). -/
def execRetryExpiry (s : State) : Host.Outcome State Fault Refusal :=
  takeEvent s fun d =>
    match operation d.relay.state with
    | some (target, a) => if a.waiting then endRetry target d else d
    | none => d

/-- POSITION_WATCH_EXPIRY (R121): the target of STUCK is the position of the settled state it leaves. -/
def execPositionWatchExpiry (s : State) : Host.Outcome State Fault Refusal :=
  takeEvent s fun d =>
    if watchRunning d then
      match settledPosition d.relay.state with
      | some p => goStuck .unexpectedPosition p d
      | none => d
    else d

end Sys2Proof.Machine
end

