-- ==== Sys2Proof/Machine/Dispatch.lean ====
section
/-! DEFINITION. One arm for each command: the direct call of its meaning. -/

namespace Sys2Proof.Machine

/-- The effect of a command on the part. -/
def exec (i : Instr) (s : State) : Host.Outcome State Fault Refusal :=
  match i with
  | .pulseLineFall phase => Sys2Proof.Machine.execPulseLineFall phase s
  | .pulseFilterExpiry phase => Sys2Proof.Machine.execPulseFilterExpiry phase s
  | .pulseArrival phase direction openFirst => Sys2Proof.Machine.execPulseArrival phase direction openFirst s
  | .secondTick first => Sys2Proof.Machine.execSecondTick first s
  | .minuteBoundary => Sys2Proof.Machine.execMinuteBoundary s
  | .dayBoundary => Sys2Proof.Machine.execDayBoundary s
  | .slotBoundary => Sys2Proof.Machine.execSlotBoundary s
  | .backoffExpiry => Sys2Proof.Machine.execBackoffExpiry s
  | .testExpiry => Sys2Proof.Machine.execTestExpiry s
  | .serviceWindowExpiry => Sys2Proof.Machine.execServiceWindowExpiry s
  | .lockoutExpiry => Sys2Proof.Machine.execLockoutExpiry s
  | .stepExpiry => Sys2Proof.Machine.execStepExpiry s
  | .inactivityExpiry => Sys2Proof.Machine.execInactivityExpiry s
  | .presenceExpiry => Sys2Proof.Machine.execPresenceExpiry s
  | .linkDamagedCharacter error => Sys2Proof.Machine.execLinkDamagedCharacter error s
  | .linkGapExpiry => Sys2Proof.Machine.execLinkGapExpiry s
  | .linkBadFrameCheck => Sys2Proof.Machine.execLinkBadFrameCheck s
  | .digitKey digit => Sys2Proof.Machine.execDigitKey digit s
  | .backKey => Sys2Proof.Machine.execBackKey s
  | .enterKey => Sys2Proof.Machine.execEnterKey s
  | .emergencyKey => Sys2Proof.Machine.execEmergencyKey s
  | .reconnectKey => Sys2Proof.Machine.execReconnectKey s
  | .infoKey => Sys2Proof.Machine.execInfoKey s
  | .presenceFrame caseOpen version => Sys2Proof.Machine.execPresenceFrame caseOpen version s
  | .linkOtherFrame kind payload => Sys2Proof.Machine.execLinkOtherFrame kind payload s
  | .statusPeriodExpiry => Sys2Proof.Machine.execStatusPeriodExpiry s
  | .statusTransmitStart => Sys2Proof.Machine.execStatusTransmitStart s
  | .driveCompletion => Sys2Proof.Machine.execDriveCompletion s
  | .confirmationExpiry => Sys2Proof.Machine.execConfirmationExpiry s
  | .retryExpiry => Sys2Proof.Machine.execRetryExpiry s
  | .positionWatchExpiry => Sys2Proof.Machine.execPositionWatchExpiry s
  | .senseLineChange line level => Sys2Proof.Machine.execSenseLineChange line level s
  | .senseFilterExpiry line => Sys2Proof.Machine.execSenseFilterExpiry line s
  | .checkCompletion => Sys2Proof.Machine.execCheckCompletion s
  | .getStatus parameters => Sys2Proof.Machine.execGetStatus parameters s
  | .getAccount parameters => Sys2Proof.Machine.execGetAccount parameters s
  | .getTariff parameters => Sys2Proof.Machine.execGetTariff parameters s
  | .getDemand parameters => Sys2Proof.Machine.execGetDemand parameters s
  | .getTamper parameters => Sys2Proof.Machine.execGetTamper parameters s
  | .getRelayFault parameters => Sys2Proof.Machine.execGetRelayFault parameters s
  | .hostPutPendingTariff parameters => Sys2Proof.Machine.execHostPutPendingTariff parameters s
  | .hostCancelPending parameters => Sys2Proof.Machine.execHostCancelPending parameters s
  | .hostSubmitCode parameters => Sys2Proof.Machine.execHostSubmitCode parameters s
  | .getCodeResult parameters => Sys2Proof.Machine.execGetCodeResult parameters s
  | .hostSetTime parameters => Sys2Proof.Machine.execHostSetTime parameters s
  | .remoteHold parameters => Sys2Proof.Machine.execRemoteHold parameters s
  | .remoteRelease parameters => Sys2Proof.Machine.execRemoteRelease parameters s
  | .reportMetrologyTamper parameters => Sys2Proof.Machine.execReportMetrologyTamper parameters s
  | .hostReadLog parameters => Sys2Proof.Machine.execHostReadLog parameters s
  | .hostSeekOldest parameters => Sys2Proof.Machine.execHostSeekOldest parameters s
  | .hostSeekNewest parameters => Sys2Proof.Machine.execHostSeekNewest parameters s
  | .mark parameters => Sys2Proof.Machine.execMark parameters s
  | .returnToMark parameters => Sys2Proof.Machine.execReturnToMark parameters s
  | .getNotices parameters => Sys2Proof.Machine.execGetNotices parameters s
  | .setNoticeEnable parameters => Sys2Proof.Machine.execSetNoticeEnable parameters s
  | .hostRestart parameters => Sys2Proof.Machine.execHostRestart parameters s
  | .hostBadFrame => Sys2Proof.Machine.execHostBadFrame s
  | .hostUnknownRequest code => Sys2Proof.Machine.execHostUnknownRequest code s
  | .responseCompletion => Sys2Proof.Machine.execResponseCompletion s
  | .readStatus parameters => Sys2Proof.Machine.execReadStatus parameters s
  | .readAccount parameters => Sys2Proof.Machine.execReadAccount parameters s
  | .readTariff parameters => Sys2Proof.Machine.execReadTariff parameters s
  | .readDemand parameters => Sys2Proof.Machine.execReadDemand parameters s
  | .readTamper parameters => Sys2Proof.Machine.execReadTamper parameters s
  | .readLink parameters => Sys2Proof.Machine.execReadLink parameters s
  | .readEnergy parameters => Sys2Proof.Machine.execReadEnergy parameters s
  | .readCodeList parameters => Sys2Proof.Machine.execReadCodeList parameters s
  | .readCodeResult parameters => Sys2Proof.Machine.execReadCodeResult parameters s
  | .serviceReadLog parameters => Sys2Proof.Machine.execServiceReadLog parameters s
  | .serviceSeekOldest parameters => Sys2Proof.Machine.execServiceSeekOldest parameters s
  | .serviceSeekNewest parameters => Sys2Proof.Machine.execServiceSeekNewest parameters s
  | .serviceSubmitCode parameters => Sys2Proof.Machine.execServiceSubmitCode parameters s
  | .commission parameters => Sys2Proof.Machine.execCommission parameters s
  | .commissionCompletion => Sys2Proof.Machine.execCommissionCompletion s
  | .writeConfig parameters => Sys2Proof.Machine.execWriteConfig parameters s
  | .writeFunctionTable parameters => Sys2Proof.Machine.execWriteFunctionTable parameters s
  | .serviceSetTime parameters => Sys2Proof.Machine.execServiceSetTime parameters s
  | .servicePutPendingTariff parameters => Sys2Proof.Machine.execServicePutPendingTariff parameters s
  | .serviceCancelPending parameters => Sys2Proof.Machine.execServiceCancelPending parameters s
  | .serviceHold parameters => Sys2Proof.Machine.execServiceHold parameters s
  | .serviceRelease parameters => Sys2Proof.Machine.execServiceRelease parameters s
  | .retryRelay parameters => Sys2Proof.Machine.execRetryRelay parameters s
  | .testStart parameters => Sys2Proof.Machine.execTestStart parameters s
  | .testEnd parameters => Sys2Proof.Machine.execTestEnd parameters s
  | .restoreAccount parameters => Sys2Proof.Machine.execRestoreAccount parameters s
  | .clearLinkCounts parameters => Sys2Proof.Machine.execClearLinkCounts parameters s
  | .serviceRestart parameters => Sys2Proof.Machine.execServiceRestart parameters s
  | .serviceUnknownRequest kind payload => Sys2Proof.Machine.execServiceUnknownRequest kind payload s
  | .serviceGapExpiry => Sys2Proof.Machine.execServiceGapExpiry s
  | .serviceResponseTransmit => Sys2Proof.Machine.execServiceResponseTransmit s
  | .mainsLoss => Sys2Proof.Machine.execMainsLoss s
  | .mainsReturn strap => Sys2Proof.Machine.execMainsReturn strap s
  | .resetAssert => Sys2Proof.Machine.execResetAssert s
  | .resetRelease => Sys2Proof.Machine.execResetRelease s
  | .initMainsChange mainsGood => Sys2Proof.Machine.execInitMainsChange mainsGood s
  | .endOfInitializing strap first => Sys2Proof.Machine.execEndOfInitializing strap first s
  | .pulseGlitch phase => Sys2Proof.Machine.execPulseGlitch phase s
  | .linkGoodCharacter character => Sys2Proof.Machine.execLinkGoodCharacter character s
  | .serviceGoodCharacter character => Sys2Proof.Machine.execServiceGoodCharacter character s
  | .serviceDamagedCharacter => Sys2Proof.Machine.execServiceDamagedCharacter s
  | .serviceBadFrameCheck => Sys2Proof.Machine.execServiceBadFrameCheck s
  | .statusFrameEnd => Sys2Proof.Machine.execStatusFrameEnd s
  | .serviceResponseEnd => Sys2Proof.Machine.execServiceResponseEnd s
  | .backupAndMainsLost => Sys2Proof.Machine.execBackupAndMainsLost s
  | .poweredFromNothing mainsGood resetAsserted => Sys2Proof.Machine.execPoweredFromNothing mainsGood resetAsserted s

end Sys2Proof.Machine
end

