-- ==== Sys2Proof/Machine/HostBus.lean ====
section
/-! DEFINITION. Section 9.1: the bus events of the meter host port. They have no rows in the opcode table (log 12): a
start addresses the port, bytes move, and the end of a write transaction that carried a byte is the request arrival,
the command its bytes spell, taken at that end (R162, R163, R164). -/

namespace Sys2Proof.Machine

/-- The direction bit of a transaction (R162). -/
inductive Direction
  | write
  | read
deriving DecidableEq, Repr

/-- Another framing of the transaction on the bus. -/
def setTransaction (x : Transaction) (d : Device) : Device := d.setHost { d.host with transaction := x }

/-- A start condition, an address and a direction: the port takes part where it acknowledges the address (R162). -/
def beginTransaction (address : Byte) (direction : Direction) (d : Device) : Device :=
  if acknowledges d address then
    setTransaction (match direction with | .write => .writing [] | .read => .reading d.host.response 0) d
  else d

/-- The port acknowledges a byte that the controller writes: each byte of a write transaction it takes part in (R162).
-/
def acknowledgesByte (d : Device) : Bool :=
  running d && (match d.host.transaction with | .writing _ => true | _ => false)

/-- The controller writes a byte; the port takes the bytes in the order written (R162). -/
def writeBusByte (c : Byte) (d : Device) : Device :=
  match d.host.transaction with
  | .writing taken => if running d then setTransaction (.writing (taken ++ [c])) d else d
  | _ => d

/-- The byte that the port supplies next, by the buffer as the read found it; stopped, or outside a read that it takes
part in, it supplies none (R162, Table 9-1A). -/
def suppliedByte (d : Device) : Option Byte :=
  match d.host.transaction with
  | .reading buffer k => if running d then some (hostReadByte buffer k) else none
  | _ => none

/-- The controller clocks a byte of a read transaction: left unacknowledged, it ends the transaction (R162). -/
def clockBusByte (acknowledged : Bool) (d : Device) : Device :=
  match d.host.transaction with
  | .reading buffer k =>
    if running d then setTransaction (if acknowledged then .reading buffer (k + 1) else .idle) d else d
  | _ => d

/-- The request arrival that the end of the transaction in progress is: the command of the bytes written, if any
(R163). -/
def arrivalAtEnd (d : Device) : Option Instr :=
  match d.host.transaction with
  | .writing taken => if running d then hostCommand taken else none
  | _ => none

/-- A stop condition: the transaction ends, and a write's request arrives (R162, R163). -/
def stopCondition (s : State) : Host.Outcome State Fault Refusal :=
  let ended : State := { s with device := setTransaction .idle s.device }
  match arrivalAtEnd s.device with
  | some i => exec i ended
  | none => .next ended

/-- A repeated start: the transaction in progress ends as at a stop condition, and the next one begins (R162). -/
def repeatedStart (address : Byte) (direction : Direction) (s : State) : Host.Outcome State Fault Refusal :=
  match stopCondition s with
  | .next t => .next { t with device := beginTransaction address direction t.device }
  | other => other

end Sys2Proof.Machine
end

