-- ==== Sys2Proof/WellFormed.lean ====
section
/-! DEFINITION. The forms of commands that a port can bring about: a meter host request has at most 48 parameters, a
character frame at most 64, an unknown request a code that names none, and another frame of the link is none that has
a row of its own. A command of another form is answered all the same (logs 2 and 38). -/

namespace Sys2Proof

/-- The frame of a key or of a PRESENCE report, which has a row of its own (R191). -/
def ownLinkFrame (kind : Byte) (payload : List Byte) : Bool :=
  match payload with
  | [key] => kind == Config.kindKey && decide (key.toNat ≤ 0x0E)
  | [ciuCase, _] => kind == Config.kindPresence && decide (ciuCase.toNat ≤ 0x01)
  | _ => false

/-- Whether a command is one that its port can bring about. -/
def wellFormed (i : Instr) : Bool :=
  match i with
  | .linkOtherFrame kind payload => decide (payload.length ≤ Config.framePayload) && !ownLinkFrame kind payload
  | .serviceUnknownRequest kind payload =>
    decide (payload.length ≤ Config.framePayload) && (decide (kind.toNat < 0x40) || decide (0x5A < kind.toNat))
  | .hostUnknownRequest code => code == 0x00 || decide (0x16 < code.toNat)
  | _ =>
    match hostParts i, serviceParts i with
    | some q, _ => decide (q.2.length ≤ Config.hostParameters)
    | _, some q => decide (q.2.length ≤ Config.framePayload)
    | _, _ => true

end Sys2Proof
end

