-- ==== Sys2Proof/Safety.lean ====
section
/-! DEFINITION. What a sound part is, in the terms claims use: the ranges and the agreements between blocks that the
spec states of every state, as predicates of the device; and which blocks two devices share, for frames. -/

namespace Sys2Proof.Machine

/-! ### Frames -/

/-- The seventeen groups of a device's state, for frames. -/
inductive Block
  | power
  | intake
  | residue
  | account
  | settings
  | clock
  | tariffs
  | codes
  | keypad
  | link
  | relay
  | load
  | tamper
  | log
  | host
  | service
  | oneTime
deriving DecidableEq, Repr

/-- The link's state but for the note that a displayed field has changed (R99). -/
def linkBody (l : Link) : Link := { l with statusDue := false }

/-- Two devices agree in a block; of the link, in all but the note that a STATUS frame is due. -/
def Block.same (b : Block) (d e : Device) : Prop :=
  match b with
  | .power => e.power = d.power
  | .intake => e.intake = d.intake
  | .residue => e.residue = d.residue
  | .account => e.account = d.account
  | .settings => e.settings = d.settings
  | .clock => e.clock = d.clock
  | .tariffs => e.tariffs = d.tariffs
  | .codes => e.codes = d.codes
  | .keypad => e.keypad = d.keypad
  | .link => linkBody e.link = linkBody d.link
  | .relay => e.relay = d.relay
  | .load => e.load = d.load
  | .tamper => e.tamper = d.tamper
  | .log => e.log = d.log
  | .host => e.host = d.host
  | .service => e.service = d.service
  | .oneTime => e.oneTime = d.oneTime

/-- Every block but those named is unchanged. -/
def keepsBut (named : List Block) (d e : Device) : Prop := ∀ b : Block, b ∉ named → b.same d e

/-! ### Commands answered -/

/-- A command answers a next state with the queue as it was and a device of which `after` holds. -/
def answers (c : Instr) (s : State) (after : Device → Prop) : Prop :=
  ∃ t, exec c s = .next t ∧ t.pending = s.pending ∧ after t.device

/-- The meter host port takes a request with these parameters as a well-formed frame (R163). -/
def hostReady (p : List Byte) (d : Device) : Prop := running d = true ∧ p.length ≤ Config.hostParameters

/-- The response of the meter host port is prepared, and nothing else of the port changes (R164). -/
def responded (a : Answer) (d e : Device) : Prop := e.host = { d.host with response := .preparing a }

/-- A frame can end on the running customer link (R93, R95). -/
def linkReady (kind : Byte) (payload : List Byte) (d : Device) : Prop :=
  running d = true ∧ admitsFrame d.link.assembly kind payload = true

/-- The link after a valid frame: its assembly hunts, and the CIU is present for 60 s (R95, R100). -/
def linkAfter (l : Link) : Link := { l with assembly := .hunting, presence := .watching 60 }

/-- Keypad Entry after a key, before the key acts: 30 s of inactivity begin (R102). -/
def keyed (k : Keypad) : Keypad := { k with inactivity := 30 }

/-- A frame can end at the running service port, no response waits and no COMMISSION write is in flight (R179, R180). -/
def serviceReady (code : Byte) (p : List Byte) (d : Device) : Prop :=
  running d = true ∧ admitsFrame d.service.assembly code p = true ∧ d.service.waiting = none
    ∧ d.service.commissioning = none

/-- The response waits, and nothing else of the service port changes but that its assembly hunts (R180). -/
def replied (code : Byte) (a : Answer) (d e : Device) : Prop :=
  e.service = { d.service with assembly := .hunting, waiting := some { request := code, answer := a } }

/-- The log after one more record, where there is room and a number for it (R155). -/
def recorded (x : LogData) (d e : Device) : Prop :=
  e.log.records = d.log.records ++ [{ number := d.log.next, time := timeMark d, data := x }]

/-- There is room and there are numbers for `n` more records. -/
def logRoom (n : Nat) (d : Device) : Prop :=
  d.log.records.length + n ≤ Config.logPlaces ∧ d.log.next + n ≤ Config.numberEnd

/-- The owning block holds a configuration value as written (Table 10-3). -/
def configHeld (w : ConfigWrite) (d : Device) : Prop :=
  match w with
  | .lowLevel n => d.settings.lowLevel = n
  | .friendlyFloor x => d.settings.friendlyFloor = x
  | .emergencyAmount n => d.settings.emergencyAmount = n
  | .emergencyThreshold n => d.settings.emergencyThreshold = n
  | .friendlyWindow i e => d.settings.windows[i] = e
  | .codeValidityDays n => d.codes.validityDays = n
  | .linkRate r => d.link.rate = r
  | .loadLimit n => if n = 0 then d.load.limit = 0 ∧ d.load.pendingLimit = none else d.load.pendingLimit = some n
  | .bypassThreshold n => d.tamper.bypassThreshold = n
  | .reverseThreshold n => d.tamper.reverseThreshold = n
  | .sourceAction s a => (sourceEntry d s).action = a

/-- Characters taken one by one, each by its own command. -/
def feed (take : Byte → Instr) : List Byte → State → Host.Outcome State Fault Refusal
  | [], s => .next s
  | c :: rest, s =>
    match exec (take c) s with
    | .next t => feed take rest t
    | other => other

/-! ### Power and part (R176, R177, R186, R188) -/

/-- Outside INITIALIZING the always-on domain has supply, RESET is released and the store has been verified; the
initialization time runs exactly in INITIALIZING with RESET released and MAINS_GOOD high. -/
def PowerSound (d : Device) : Prop :=
  (d.power.part ≠ .initializing →
      alive d = true ∧ d.power.resetAsserted = false ∧ d.power.storeIntact = true)
    ∧ (d.power.initTiming = true ↔
        d.power.part = .initializing ∧ d.power.resetAsserted = false ∧ d.power.supply = .mains)

/-! ### Time (R46, R52) -/

/-- Meter time is in its range, and last_charged_day is a day number present exactly while time is SET. -/
def ClockSound (d : Device) : Prop :=
  d.clock.now.day ≤ Config.lastDay ∧ d.clock.now.second ≤ Config.lastSecond
    ∧ (d.clock.isSet = true ↔ d.clock.lastCharged.isSome = true)
    ∧ ∀ day ∈ d.clock.lastCharged, day ≤ Config.lastDay

/-! ### The account (R13, R23, R24, R28, R35) -/

/-- A friendly window entry is in its ranges (R35). -/
def windowInRange (w : FriendlyWindow) : Bool :=
  decide (w.start ≤ 1439) && decide (w.finish ≤ 1439) && decide (w.mask ≤ 127)

/-- The account, the residue and the settings are in their ranges, and the credit state is that of the balance. -/
def AccountSound (d : Device) : Prop :=
  -(Config.moneyTop : Int) ≤ d.account.balance ∧ d.account.balance ≤ Config.moneyTop
    ∧ d.account.debt ≤ Config.moneyTop ∧ d.account.emergency ≤ Config.amountTop
    ∧ d.account.recoveryPercent ≤ 100
    ∧ d.account.purchased ≤ Config.lifetimeTop ∧ d.account.charged ≤ Config.lifetimeTop
    ∧ d.account.creditState = creditStateOf d.account.balance d.settings.lowLevel
    ∧ d.residue < Config.residueUnits
    ∧ d.settings.lowLevel ≤ Config.amountTop ∧ d.settings.emergencyAmount ≤ Config.amountTop
    ∧ d.settings.emergencyThreshold ≤ Config.amountTop
    ∧ -(Config.amountTop : Int) ≤ d.settings.friendlyFloor ∧ d.settings.friendlyFloor ≤ 0
    ∧ d.settings.windows.toList.all windowInRange = true

/-- The active and the pending tariff satisfy the validity rules (R55, R56, R58). -/
def TariffsSound (d : Device) : Prop :=
  validTariff d.tariffs.active = true ∧ ∀ p ∈ d.tariffs.pending, validTariff p.tariff = true

/-! ### Codes (R70, R83, R89) -/

/-- The issue numbers of the used-code list. -/
def usedIssues (c : Codes) : List Nat := c.used.map (·.issue)

/-- The KEYPAD codes among the queue and the code in check. -/
def keypadCodes (c : Codes) : List QueuedCode := (c.inCheck.toList ++ c.queue).filter (·.source == .keypad)

/-- The queue holds at most 4 entries; together with the code in check at most one KEYPAD code; a code waits only while
another is in check (R70, R74). -/
def QueueSound (d : Device) : Prop :=
  d.codes.queue.length ≤ Config.queuePlaces ∧ (keypadCodes d.codes).length ≤ 1
    ∧ (d.codes.inCheck = none → d.codes.queue = []) ∧ d.codes.nextTicket ≤ 255

/-- The used-code list holds at most 48 entries, strictly ascending, none below the floor (R83); in ACCOUNT_LOST it is
empty and the floor stands at its top (R84). -/
def UsedSound (d : Device) : Prop :=
  d.codes.used.length ≤ Config.usedPlaces ∧ (usedIssues d.codes).Pairwise (· < ·)
    ∧ (∀ n ∈ usedIssues d.codes, d.codes.floor ≤ n ∧ n < Config.floorTop) ∧ d.codes.floor ≤ Config.floorTop
    ∧ (d.power.part = .accountLost → d.codes.used = [] ∧ d.codes.floor = Config.floorTop)

/-- An issue number is spent: listed, or below the floor (R83). -/
def issueSpent (n : Nat) (d : Device) : Prop := n < d.codes.floor ∨ n ∈ usedIssues d.codes

/-- The service window has at most 240 minutes, and a meter test runs only in IN_SERVICE on mains with the window OPEN,
for less than an hour (R16, R18, R19, R89). -/
def TestSound (d : Device) : Prop :=
  d.codes.windowMinutes ≤ Config.windowTop
    ∧ (d.intake.testActive = true →
        running d = true ∧ d.power.part = .inService ∧ 0 < d.codes.windowMinutes
          ∧ d.intake.testTimer < Config.testSeconds)

/-! ### Keypad Entry and the link (R96, R100, R102, R108, R109) -/

/-- Keypad Entry is in its ranges, and the emergency step is ARMED only over an empty buffer. -/
def KeypadSound (d : Device) : Prop :=
  d.keypad.buffer.length ≤ Config.codeDigits ∧ d.keypad.stepTimer ≤ Config.stepSeconds ∧ d.keypad.page ≤ 3
    ∧ d.keypad.inactivity ≤ Config.inactivitySeconds ∧ d.keypad.refusals < Config.lockoutRefusals
    ∧ d.keypad.lockout ≤ Config.lockoutMinutes ∧ (0 < d.keypad.stepTimer → d.keypad.buffer = [])

/-- A presence timer is in its range: it lapses at 0 (R100). -/
def presenceInRange (p : Presence) : Bool :=
  match p with
  | .watching left => decide (0 < left) && decide (left ≤ Config.presenceSeconds)
  | _ => true

/-- A frame being assembled holds no more than its kind, its length and its payload (R95). -/
def assemblyInRange (a : Assembly) : Bool :=
  match a with
  | .assembling (_ :: length :: payload) =>
    decide (length.toNat ≤ Config.framePayload) && decide (payload.length ≤ length.toNat)
  | _ => true

/-- The link's counts saturate at 255, its presence timer and its assembly are in range, and it sends nothing while
stopped (R93, R96, R100). -/
def LinkSound (d : Device) : Prop :=
  d.link.parityErrors ≤ 255 ∧ d.link.framingErrors ≤ 255 ∧ d.link.badFrames ≤ 255
    ∧ presenceInRange d.link.presence = true ∧ assemblyInRange d.link.assembly = true
    ∧ (running d = false → d.link.sending = none ∧ d.link.assembly = .hunting)

/-! ### The relay and its reasons (R38, R40, R114, R118, R126, R147) -/

/-- A relay state is the one its reasons allow on mains: CLOSED and RECONNECT_READY with none, OPEN with some (R118). -/
def stateAllowed (st : RelayState) (r : Reasons) : Bool :=
  match st with
  | .closed => r.isEmpty
  | .reconnectReady => r.isEmpty
  | .open => !r.isEmpty
  | _ => true

/-- The state in which the relay settles at a position, by the reasons and the auxiliary position: CLOSED with reasons
goes at once into an open operation at attempt 1 (R115, R119, R122, R127). -/
def settledOn (p : Position) (d : Device) : RelayState :=
  match p with
  | .open => if d.relay.reasons.isEmpty then .reconnectReady else .open
  | .closed => if d.relay.reasons.isEmpty then .closed else (startAttempt .open false d).relay.state

/-- An operation is in flight. -/
def inOperation (st : RelayState) : Bool :=
  match st with
  | .opening _ => true
  | .closing _ => true
  | _ => false

/-- No relay state is held in INITIALIZING and one is held outside it; on mains the state is one its reasons allow; in
BATTERY no operation is in flight (R114, R118, R126). -/
def RelaySound (d : Device) : Prop :=
  (d.power.part = .initializing ↔ d.relay.state = .unheld)
    ∧ (running d = true → stateAllowed d.relay.state d.relay.reasons = true)
    ∧ (running d = false → inOperation d.relay.state = false)

/-- Outside INITIALIZING, CREDIT, ACCOUNT and TAMPER are present exactly as R38, R40 and R147 say. -/
def ReasonsSound (d : Device) : Prop :=
  d.power.part ≠ .initializing →
    d.relay.reasons.credit = creditReasonOf d ∧ d.relay.reasons.account = accountReasonOf d
      ∧ d.relay.reasons.tamper = tamperReasonOf d

/-! ### The Load Monitor (R128, R130, R131, R132) -/

/-- The Load Monitor is in its ranges, and LOAD is present exactly while the backoff runs (R111, R131). -/
def LoadSound (d : Device) : Prop :=
  (∀ n ∈ d.load.slots.toList, n ≤ Config.slotTop) ∧ d.load.limit ≤ Config.loadTop
    ∧ (∀ w ∈ d.load.pendingLimit, 0 < w ∧ w ≤ Config.loadTop) ∧ d.load.backoff ≤ Config.longBackoff
    ∧ d.load.history.length ≤ Config.tripPlaces ∧ d.relay.reasons.load = decide (0 < d.load.backoff)

/-! ### The Tamper Monitor (R9, R10, R135, R142, R144) -/

/-- A function table entry's filter time is in its range, in steps of 10 ms (R135). -/
def filterInRange (e : LineEntry) : Bool :=
  decide (10 ≤ e.filterTime) && decide (e.filterTime ≤ 2550) && e.filterTime % 10 == 0

/-- A source entry's count is in its range, and an unlatched one has no first time and no latching record (R144). -/
def entrySound (e : SourceEntry) : Bool :=
  decide (e.count ≤ 255) && (e.latched || (e.firstTime.isNone && e.record.isNone))

/-- The Tamper Monitor and the two tamper accumulators are in their ranges. -/
def TamperSound (d : Device) : Prop :=
  d.tamper.table.toList.all filterInRange = true ∧ d.tamper.sources.toList.all entrySound = true
    ∧ 1 ≤ d.tamper.bypassThreshold ∧ d.tamper.bypassThreshold ≤ 255
    ∧ 1 ≤ d.tamper.reverseThreshold ∧ d.tamper.reverseThreshold ≤ 255
    ∧ d.intake.openEnergy ≤ 255 ∧ d.intake.reverse ≤ 255

/-! ### The Event Log (R152, R155, R157) -/

/-- The numbers of the records held. -/
def heldNumbers (l : Log) : List Nat := l.records.map (·.number)

/-- The log holds at most 64 records in strictly ascending order, each below the next record number; the cursors and the
mark do not pass it; and the latching record of every latched source is held (R152, R155, R157). -/
def LogSound (d : Device) : Prop :=
  d.log.records.length ≤ Config.logPlaces ∧ (heldNumbers d.log).Pairwise (· < ·)
    ∧ (∀ n ∈ heldNumbers d.log, n < d.log.next) ∧ d.log.next ≤ Config.numberEnd
    ∧ d.log.hostCursor ≤ d.log.next ∧ d.log.serviceCursor ≤ d.log.next
    ∧ (∀ m ∈ d.log.mark, m ≤ d.log.next)
    ∧ ∀ e ∈ d.tamper.sources.toList, e.latched = true → ∀ n ∈ e.record, n ∈ heldNumbers d.log

/-! ### Commissioning (R184, R185) -/

/-- The One-Time Store is written in IN_SERVICE and ACCOUNT_LOST and unwritten in UNCOMMISSIONED; a write is in flight
only in UNCOMMISSIONED on mains, over an unwritten store. -/
def StoreSound (d : Device) : Prop :=
  (d.power.part = .inService ∨ d.power.part = .accountLost → d.oneTime.isSome = true)
    ∧ (d.power.part = .uncommissioned → d.oneTime = none)
    ∧ (d.service.commissioning.isSome = true → running d = true ∧ d.power.part = .uncommissioned)

/-- Everything at once. -/
def Sound (d : Device) : Prop :=
  PowerSound d ∧ ClockSound d ∧ AccountSound d ∧ TariffsSound d ∧ QueueSound d ∧ UsedSound d ∧ TestSound d
    ∧ KeypadSound d ∧ LinkSound d ∧ RelaySound d ∧ ReasonsSound d ∧ LoadSound d ∧ TamperSound d ∧ LogSound d
    ∧ StoreSound d

end Sys2Proof.Machine
end

