-- ==== Sys2Proof/Certificates/Slice0/Obligations.lean ====
section
/-! DEFINITION. The statements for the provers. OBLIGATIONS.json gives each its number, its sentence and its rules. -/

open Sys2Proof Sys2Proof.Machine

/-- A step runs the command at the front of the queue; an empty queue idles. The queue, and idling on an empty one,
are the model's choice (log 1). -/
def Obligations.StepTakesFrontCommand : Prop :=
  ∀ (c : Instr) (q : List Instr) (s : State),
    step (s.withPending (c :: q)) = exec c (s.withPending q)
      ∧ step (s.withPending []) = .next (s.withPending [])

/-- The state after reset satisfies every invariant. Reset values the spec does not give are the model's choice (logs
5 and 6). -/
def Obligations.ResetIsSound : Prop :=
  State.reset.pending = [] ∧ Sound State.reset.device

/-- Filter edges and glitches charge nothing, and under a meter test an arrival changes only its own accumulator. -/
def Obligations.FilterAndTestEdgesChargeNothing : Prop :=
  (∀ (s : State) (p : Phase),
     answers (.pulseLineFall p) s (fun d =>
         d = s.device.setIntake
           { s.device.intake with pulseLines := s.device.intake.pulseLines.set p .low })
       ∧ (running s.device = true → s.device.intake.filters[p] = .waiting → s.device.intake.pulseLines[p] = .low →
           answers (.pulseFilterExpiry p) s fun d =>
             d = s.device.setIntake { s.device.intake with filters := s.device.intake.filters.set p .armed })
       ∧ (s.device.intake.filters[p] = .waiting →
           answers (.pulseGlitch p) s fun d =>
             d = s.device.setIntake
               { s.device.intake with pulseLines := s.device.intake.pulseLines.set p .high }))
    ∧ (∀ (s : State) (p : Phase) (openFirst : Bool),
         running s.device = true → s.device.intake.filters[p] = .armed → s.device.intake.testActive = true →
           s.device.power.part = .inService →
             answers (.pulseArrival p .low openFirst) s (fun d =>
                 d = s.device.setIntake
                   { s.device.intake with
                     filters := s.device.intake.filters.set p .waiting,
                     pulseLines := s.device.intake.pulseLines.set p .high,
                     testImport := s.device.intake.testImport.set p
                       (if s.device.intake.testImport[p] < 9999999 then s.device.intake.testImport[p] + 1
                         else s.device.intake.testImport[p]) })
               ∧ answers (.pulseArrival p .high openFirst) s (fun d =>
                 d = s.device.setIntake
                   { s.device.intake with
                     filters := s.device.intake.filters.set p .waiting,
                     pulseLines := s.device.intake.pulseLines.set p .high,
                     testExport := s.device.intake.testExport.set p
                       (if s.device.intake.testExport[p] < 9999999 then s.device.intake.testExport[p] + 1
                         else s.device.intake.testExport[p]) }))

/-- An import quantum under charging routing is counted and charged and enters the demand window in every relay state.
The order of the hand-offs is an operand (log 32), and the roll-over of lifetime_charged to the excess is the model's
reading (log 15). -/
def Obligations.ImportQuantumCharged : Prop :=
  ∀ (s : State) (p : Phase) (openFirst : Bool) (b : Nat) (_ : b < 4),
    running s.device = true → s.device.intake.filters[p] = .armed → s.device.intake.testActive = false →
      bandInForce s.device = b →
        answers (.pulseArrival p .low openFirst) s fun d =>
          let sum := s.device.residue + priceOf s.device b
          let e := debitedAccount (sum / 10000) s.device.account
          d.residue = sum % 10000
            ∧ d.account = (if sum / 10000 = 0 then s.device.account
                else { e with creditState := creditStateOf e.balance s.device.settings.lowLevel })
            ∧ d.intake = { s.device.intake with
                filters := s.device.intake.filters.set p .waiting,
                pulseLines := s.device.intake.pulseLines.set p .high,
                bands := s.device.intake.bands.set b
                  (if s.device.intake.bands[b] < 999999999 then s.device.intake.bands[b] + 1 else 0),
                lifetime := if s.device.intake.lifetime < 999999999999 then s.device.intake.lifetime + 1 else 0,
                openEnergy := if s.device.relay.state = .closed then s.device.intake.openEnergy
                  else if s.device.intake.openEnergy + 1 < s.device.tamper.bypassThreshold then
                    s.device.intake.openEnergy + 1
                  else 0 }
            ∧ d.load = { s.device.load with
                slots := s.device.load.slots.set 11
                  (if s.device.load.slots[11] < 65535 then s.device.load.slots[11] + 1
                    else s.device.load.slots[11]) }
            ∧ (s.device.relay.state = .closed
                  ∨ s.device.intake.openEnergy + 1 < s.device.tamper.bypassThreshold → d.tamper = s.device.tamper)
            ∧ keepsBut [.intake, .residue, .account, .load, .tamper, .relay, .log, .host] s.device d

/-- Energy while the relay is not CLOSED is accumulated and detects BYPASS at the threshold. -/
def Obligations.OpenEnergyWatchesBypass : Prop :=
  ∀ (s : State) (p : Phase) (openFirst : Bool),
    running s.device = true → s.device.intake.filters[p] = .armed → s.device.intake.testActive = false →
      s.device.relay.state ≠ .closed →
        (s.device.intake.openEnergy + 1 < s.device.tamper.bypassThreshold →
            answers (.pulseArrival p .low openFirst) s fun d =>
              d.intake.openEnergy = s.device.intake.openEnergy + 1 ∧ d.tamper = s.device.tamper)
          ∧ (s.device.tamper.bypassThreshold ≤ s.device.intake.openEnergy + 1 →
            answers (.pulseArrival p .low openFirst) s fun d =>
              d.intake.openEnergy = 0
                ∧ (sourceEntry d .bypass).latched = true
                ∧ (sourceEntry d .bypass).count
                    = (if (sourceEntry s.device .bypass).count < 255 then (sourceEntry s.device .bypass).count + 1
                        else (sourceEntry s.device .bypass).count)
                ∧ ∀ x, x ≠ Source.bypass → sourceEntry d x = sourceEntry s.device x)

/-- An export quantum under reverse routing enters the reverse accumulator and no other register. -/
def Obligations.ExportQuantumOnlyReverses : Prop :=
  ∀ (s : State) (p : Phase) (openFirst : Bool),
    running s.device = true → s.device.intake.filters[p] = .armed → s.device.intake.testActive = false →
      let after (n : Nat) : Intake :=
        { s.device.intake with
          filters := s.device.intake.filters.set p .waiting,
          pulseLines := s.device.intake.pulseLines.set p .high,
          reverse := n }
      (s.device.intake.reverse + 1 < s.device.tamper.reverseThreshold →
          answers (.pulseArrival p .high openFirst) s fun d =>
            d = s.device.setIntake (after (s.device.intake.reverse + 1)))
        ∧ (s.device.tamper.reverseThreshold ≤ s.device.intake.reverse + 1 →
          answers (.pulseArrival p .high openFirst) s fun d =>
            d.intake = after 0 ∧ (sourceEntry d .reverse).latched = true
              ∧ keepsBut [.intake, .tamper, .relay, .log, .host] s.device d)

/-- A second tick advances meter time by one second and holds it at its maximum. -/
def Obligations.SecondTickAdvancesTime : Prop :=
  ∀ (s : State) (first : List TickPart), alive s.device = true →
    answers (.secondTick first) s fun d =>
      (s.device.clock.now.second < 86399 →
          d.clock.now = { day := s.device.clock.now.day, second := s.device.clock.now.second + 1 })
        ∧ (s.device.clock.now.second = 86399 → s.device.clock.now.day < 65535 →
          d.clock.now = { day := s.device.clock.now.day + 1, second := 0 })
        ∧ (s.device.clock.now = { day := 65535, second := 86399 } →
          d.clock.now = s.device.clock.now ∧ d.codes = s.device.codes ∧ d.keypad.lockout = s.device.keypad.lockout
            ∧ d.load.slots = s.device.load.slots)
        ∧ d.clock.isSet = s.device.clock.isSet
        ∧ keepsBut
            [.intake, .account, .clock, .tariffs, .codes, .keypad, .link, .relay, .load, .tamper, .log, .host]
            s.device d

/-- Each timer counted in ticks has its effect at the second tick that ends it, and its row is that tick. That a row
of a boundary or an expiry is the tick at which it falls is the model's reading (logs 3 and 4). -/
def Obligations.TimersExpireAtTheirTick : Prop :=
  ∀ s : State, alive s.device = true →
    (s.device.keypad.stepTimer = 1 → answers .stepExpiry s fun d => d.keypad.stepTimer = 0)
      ∧ (s.device.keypad.inactivity = 1 →
        answers .inactivityExpiry s fun d =>
          d.keypad.buffer = [] ∧ d.keypad.stepTimer = 0 ∧ d.keypad.page = 0 ∧ d.keypad.inactivity = 0
            ∧ d.keypad.outcome = s.device.keypad.outcome)
      ∧ (minuteNext s.device = true → s.device.keypad.lockout = 1 →
        answers .lockoutExpiry s fun d => d.keypad.lockout = 0)
      ∧ (minuteNext s.device = true → s.device.codes.windowMinutes = 1 →
        answers .serviceWindowExpiry s fun d => d.codes.windowMinutes = 0 ∧ d.intake.testActive = false)
      ∧ (s.device.intake.testActive = true → s.device.intake.testTimer = 3599 →
        answers .testExpiry s fun d => d.intake.testActive = false)
      ∧ (s.device.load.backoff = 1 → slotNext s.device = false →
        answers .backoffExpiry s fun d => d.load.backoff = 0 ∧ d.relay.reasons.load = false)
      ∧ (running s.device = true → s.device.link.presence = .watching 1 →
        answers .presenceExpiry s fun d =>
          d.link.presence = .lapsed ∧ (sourceEntry d .ciuLink).latched = true
            ∧ (sourceEntry d .ciuLink).count = raiseCount (sourceEntry s.device .ciuLink).count)
      ∧ (s.device.keypad.stepTimer = 1 → exec .stepExpiry s = exec (.secondTick []) s)
      ∧ (s.device.keypad.inactivity = 1 → exec .inactivityExpiry s = exec (.secondTick []) s)
      ∧ (minuteNext s.device = true → s.device.keypad.lockout = 1 →
        exec .lockoutExpiry s = exec (.secondTick [.boundary]) s)
      ∧ (minuteNext s.device = true → s.device.codes.windowMinutes = 1 →
        exec .serviceWindowExpiry s = exec (.secondTick [.boundary]) s)
      ∧ (s.device.intake.testActive = true → s.device.intake.testTimer = 3599 →
        exec .testExpiry s = exec (.secondTick [.test]) s)
      ∧ (s.device.load.backoff = 1 → exec .backoffExpiry s = exec (.secondTick [.backoff]) s)
      ∧ (running s.device = true → s.device.link.presence = .watching 1 →
        exec .presenceExpiry s = exec (.secondTick [.presence]) s)

/-- A minute boundary tests activation, recomputes CREDIT and counts down; a day boundary charges up to seven days
owed. That the row of a boundary is the tick at which it falls, its part first, and that lifetime_charged rolls over
to the excess, are the model's reading (logs 3, 4 and 15). -/
def Obligations.MinuteAndDayBoundariesAct : Prop :=
  (∀ s : State, minuteNext s.device = true →
     exec .minuteBoundary s = exec (.secondTick [.boundary]) s
       ∧ answers .minuteBoundary s fun d =>
         d.clock.now = advanceTime s.device.clock.now
           ∧ d.codes.windowMinutes = s.device.codes.windowMinutes - 1
           ∧ d.keypad.lockout = s.device.keypad.lockout - 1
           ∧ (s.device.power.part ≠ .initializing → d.relay.reasons.credit = creditReasonOf d)
           ∧ (s.device.power.part ≠ .initializing → s.device.clock.isSet = true →
               ∀ p ∈ s.device.tariffs.pending, p.confirmed = true →
                 activationDue p.tariff (advanceTime s.device.clock.now) = true →
                   d.tariffs = { active := p.tariff, pending := none }))
    ∧ ((∀ s : State, dayNext s.device = true → exec .dayBoundary s = exec (.secondTick [.boundary]) s)
         ∧ ∀ (s : State) (l : Nat),
           dayNext s.device = true → running s.device = true → s.device.clock.isSet = true →
             s.device.clock.lastCharged = some l → l ≤ s.device.clock.now.day →
               s.device.account.charged ≤ 999999999999 →
                 answers .dayBoundary s fun d =>
                   d.clock.lastCharged = some (s.device.clock.now.day + 1) ∧ d.intake.reverse = 0
                     ∧ d.account.charged
                       = (s.device.account.charged
                           + min (s.device.clock.now.day + 1 - l) 7 * s.device.tariffs.active.standing) % 1000000000000)

/-- A slot boundary takes the pending limit, tests for a trip, and shifts the demand window. That the row of a slot
boundary is the tick at which it falls, its part first, is the model's reading (logs 3 and 4). -/
def Obligations.SlotBoundaryTestsAndShifts : Prop :=
  ∀ s : State, slotNext s.device = true →
    let w := s.device.load.pendingLimit.getD s.device.load.limit
    let sum := s.device.load.slots.toList.sum
    let now := timeSeconds (advanceTime s.device.clock.now)
    exec .slotBoundary s = exec (.secondTick [.slot]) s
      ∧ (¬ (0 < w ∧ w < 6 * sum) →
        answers .slotBoundary s fun d =>
          d.load.slots.toList = s.device.load.slots.toList.drop 1 ++ [0] ∧ d.load.limit = w
            ∧ d.load.pendingLimit = none ∧ d.load.history = s.device.load.history)
      ∧ (0 < w → w < 6 * sum → s.device.load.history.length ≤ 3 →
        answers .slotBoundary s fun d =>
          d.load.slots = Vector.replicate 12 0 ∧ d.load.limit = w ∧ d.load.pendingLimit = none
            ∧ d.relay.reasons.load = true
            ∧ d.load.history = s.device.load.history.drop (s.device.load.history.length - 2) ++ [now]
            ∧ (d.load.backoff = 1800 ∨ d.load.backoff = 60)
            ∧ (d.load.backoff = 1800 ↔
                ∃ a b, d.load.history = [a, b, now] ∧ a ≤ now ∧ now - a ≤ 3600))

/-- A debit beyond the balance's floor becomes debt up to its limit, and a top-up splits into exactly its three parts.
That the lifetime amounts roll over to the excess is the model's reading (log 15). -/
def Obligations.DebitsAndTopUpsMoveMoneyExactly : Prop :=
  (∀ (k : Nat) (why : DebitReason) (d : Device),
     0 < k → -99999999 ≤ d.account.balance → d.account.debt ≤ 99999999 →
       let e := debit k why d
       e.account.charged = (d.account.charged + k) % 1000000000000
         ∧ (-99999999 ≤ d.account.balance - k →
             e.account.balance = d.account.balance - k ∧ e.account.debt = d.account.debt)
         ∧ (d.account.balance - k < -99999999 →
             e.account.balance = -99999999
               ∧ (e.account.debt : Int)
                   = min (d.account.debt + (-99999999 - (d.account.balance - k))) 99999999)
         ∧ e.account.creditState = creditStateOf e.account.balance d.settings.lowLevel
         ∧ e.account.emergency = d.account.emergency ∧ e.account.recoveryPercent = d.account.recoveryPercent
         ∧ e.account.purchased = d.account.purchased
         ∧ keepsBut [.account, .relay, .log, .host] d e)
    ∧ (∀ (n : Nat) (d : Device), d.account.recoveryPercent ≤ 100 →
         let e := topUp n d
         ∃ repaid recovered credited : Nat,
           n = repaid + recovered + credited ∧ repaid = min n d.account.emergency
             ∧ recovered = min ((n - repaid) * d.account.recoveryPercent / 100) d.account.debt
             ∧ e.account.emergency + repaid = d.account.emergency ∧ e.account.debt + recovered = d.account.debt
             ∧ e.account.balance = d.account.balance + credited
             ∧ e.account.purchased = (d.account.purchased + n) % 1000000000000
             ∧ e.account.creditState = creditStateOf e.account.balance d.settings.lowLevel
             ∧ keepsBut [.account, .relay, .log, .host] d e)

/-- Every step keeps the account, residue and settings in their ranges and the credit state that of the balance. -/
def Obligations.AccountStaysInRange : Prop :=
  ∀ s t : State, AccountSound s.device → step s = .next t → AccountSound t.device

/-- ENTER with the step ARMED takes emergency credit; EMERGENCY arms the step, INFO turns the page, RECONNECT closes.
-/
def Obligations.KeysBesideDigitsAct : Prop :=
  (∀ s : State, linkReady 0x10 [0x0B] s.device → 0 < s.device.keypad.stepTimer →
     answers .enterKey s fun d =>
       d.keypad = { keyed s.device.keypad with
           stepTimer := 0, outcome := some (emergencyOutcome s.device, .emergency) }
         ∧ (emergencyOutcome s.device = .accepted ↔ emergencyAvailable s.device = true)
         ∧ (emergencyAvailable s.device = true →
             d.account.balance = s.device.account.balance + s.device.settings.emergencyAmount
               ∧ d.account.emergency = s.device.settings.emergencyAmount
               ∧ d.account.debt = s.device.account.debt)
         ∧ (emergencyAvailable s.device = false →
             keepsBut [.keypad, .link] s.device d)
         ∧ linkBody d.link = linkBody (linkAfter s.device.link)
         ∧ keepsBut [.keypad, .link, .account, .relay, .log, .host] s.device d)
    ∧ (∀ s : State,
         (linkReady 0x10 [0x0C] s.device →
             answers .emergencyKey s fun d =>
               d.keypad = (if s.device.keypad.buffer = [] then { keyed s.device.keypad with stepTimer := 10 }
                   else keyed s.device.keypad)
                 ∧ linkBody d.link = linkBody (linkAfter s.device.link) ∧ keepsBut [.keypad, .link] s.device d)
           ∧ (linkReady 0x10 [0x0E] s.device →
             answers .infoKey s fun d =>
               d.keypad = { keyed s.device.keypad with
                   page := if s.device.keypad.page < 3 then s.device.keypad.page + 1 else 0 }
                 ∧ linkBody d.link = linkBody (linkAfter s.device.link) ∧ keepsBut [.keypad, .link] s.device d)
           ∧ (linkReady 0x10 [0x0D] s.device →
             answers .reconnectKey s fun d =>
               d.keypad = keyed s.device.keypad ∧ linkBody d.link = linkBody (linkAfter s.device.link)
                 ∧ keepsBut [.keypad, .link, .relay] s.device d
                 ∧ (s.device.relay.state ≠ .reconnectReady → d.relay = s.device.relay)
                 ∧ (s.device.relay.state = .reconnectReady →
                     d.relay = { s.device.relay with
                       state := .closing
                         { second := false, auxAtStart := (auxPosition s.device).isSome, driving := true,
                           confirmed := auxPosition s.device == some .closed, waiting := false } })))

/-- A digit key appends below 24 digits and is FULL at 24; BACK removes the last digit; both disarm the step. -/
def Obligations.DigitAndBackEditTheBuffer : Prop :=
  ∀ s : State,
    (∀ g : Digit, linkReady 0x10 [BitVec.ofNat 8 g.val] s.device →
        answers (.digitKey g) s fun d =>
          (s.device.keypad.buffer.length < 24 →
              d.keypad = { keyed s.device.keypad with buffer := s.device.keypad.buffer ++ [g], stepTimer := 0 })
            ∧ (24 ≤ s.device.keypad.buffer.length →
              d.keypad = { keyed s.device.keypad with outcome := some (.full, .entry), stepTimer := 0 })
            ∧ linkBody d.link = linkBody (linkAfter s.device.link) ∧ keepsBut [.keypad, .link] s.device d)
      ∧ (linkReady 0x10 [0x0A] s.device →
        answers .backKey s fun d =>
          d.keypad = { keyed s.device.keypad with buffer := s.device.keypad.buffer.dropLast, stepTimer := 0 }
            ∧ linkBody d.link = linkBody (linkAfter s.device.link) ∧ keepsBut [.keypad, .link] s.device d)

/-- ENTER with the step DISARMED submits 24 digits, or refuses them LOCKED_OUT, BUSY, QUEUE_FULL or SHORT. -/
def Obligations.EnterSubmitsOrRefuses : Prop :=
  ∀ s : State, linkReady 0x10 [0x0B] s.device → s.device.keypad.stepTimer = 0 →
    let k := keyed s.device.keypad
    let waiting := s.device.codes.inCheck.toList ++ s.device.codes.queue
    answers .enterKey s fun d =>
      keepsBut [.keypad, .link, .codes] s.device d
        ∧ linkBody d.link = linkBody (linkAfter s.device.link)
        ∧ (s.device.keypad.buffer = [] → d.keypad = k ∧ d.codes = s.device.codes)
        ∧ (0 < s.device.keypad.buffer.length → s.device.keypad.buffer.length < 24 →
            d.keypad = { k with buffer := [], outcome := some (.short, .entry) } ∧ d.codes = s.device.codes)
        ∧ (s.device.keypad.buffer.length = 24 → 0 < s.device.keypad.lockout →
            d.keypad = { k with buffer := [], outcome := some (.lockedOut, .entry) } ∧ d.codes = s.device.codes)
        ∧ (s.device.keypad.buffer.length = 24 → s.device.keypad.lockout = 0 →
            ((∃ c ∈ waiting, c.source = .keypad) →
                d.keypad = { k with buffer := [], outcome := some (.busy, .code) } ∧ d.codes = s.device.codes)
              ∧ ((∀ c ∈ waiting, c.source ≠ .keypad) → 4 ≤ s.device.codes.queue.length →
                d.keypad = { k with buffer := [], outcome := some (.queueFull, .code) }
                  ∧ d.codes = s.device.codes)
              ∧ ((∀ c ∈ waiting, c.source ≠ .keypad) → s.device.codes.queue.length < 4 →
                d.keypad = { k with buffer := [] }
                  ∧ d.codes.inCheck.toList ++ d.codes.queue
                    = waiting ++ [{
                        source := .keypad, digits := s.device.keypad.buffer,
                        ticket := s.device.codes.nextTicket }]))

/-- A PRESENCE frame stores the CIU case and version and detects an opening; it and a frame of another kind prove
presence. -/
def Obligations.PresenceAndOtherFrames : Prop :=
  ∀ s : State,
    (∀ (caseOpen : Bool) (v : Byte), linkReady 0x11 [if caseOpen then 0x01 else 0x00, v] s.device →
        answers (.presenceFrame caseOpen v) s fun d =>
          linkBody d.link = linkBody { linkAfter s.device.link with
              ciuVersion := some v, ciuCase := if caseOpen then .open else .closed }
            ∧ (¬ (caseOpen = true ∧ s.device.link.ciuCase = .closed) → keepsBut [.link] s.device d)
            ∧ (caseOpen = true → s.device.link.ciuCase = .closed →
                (sourceEntry d .ciuCase).latched = true
                  ∧ (sourceEntry d .ciuCase).count = raiseCount (sourceEntry s.device .ciuCase).count
                  ∧ keepsBut [.link, .tamper, .relay, .log, .host] s.device d))
      ∧ ∀ (kind : Byte) (payload : List Byte), wellFormed (.linkOtherFrame kind payload) = true →
          linkReady kind payload s.device →
            answers (.linkOtherFrame kind payload) s fun d => d = s.device.setLink (linkAfter s.device.link)

/-- A character is judged by its stop bit and its parity, and a sent one carries its bits least significant first.
When the bits are sampled is left out as timing (log 45). -/
def Obligations.CharactersJudgedByTheirBits : Prop :=
  (∀ c : Byte,
     (∀ i : Fin 8, (sentCharacter c).data[i] = c.getLsbD i.val) ∧ (sentCharacter c).stopIdle = true
       ∧ ((sentCharacter c).data.toList ++ [(sentCharacter c).parity]).count true % 2 = 0
       ∧ judgeCharacter (sentCharacter c) = .good c)
    ∧ (∀ x : LineCharacter,
         let ones := (x.data.toList ++ [x.parity]).count true
         (x.stopIdle = false → judgeCharacter x = .damaged .framing)
           ∧ (x.stopIdle = true → ones % 2 = 1 → judgeCharacter x = .damaged .parity)
           ∧ (x.stopIdle = true → ones % 2 = 0 → ∃ c : Byte, judgeCharacter x = .good c
             ∧ ∀ i : Fin 8, c.getLsbD i.val = x.data[i]))
    ∧ (∀ (s : State) (x : LineCharacter), running s.device = true →
         (x.stopIdle = false →
             answers (linkTakes x) s fun d =>
               d = s.device.setLink
                 { s.device.link with
                   assembly := .hunting,
                   framingErrors := if s.device.link.framingErrors < 255 then s.device.link.framingErrors + 1
                     else s.device.link.framingErrors })
           ∧ (x.stopIdle = false ∨ (x.data.toList ++ [x.parity]).count true % 2 = 1 →
             answers (serviceTakes x) s fun d =>
               d = s.device.setService { s.device.service with assembly := .hunting }))

/-- Damage, gaps and wrong checks count and hunt; while no frame ends a good character moves the assembly by Table
5-1. -/
def Obligations.CharactersMoveTheAssembly : Prop :=
  (∀ s : State, running s.device = true →
     let up (n : Nat) : Nat := if n < 255 then n + 1 else n
     answers (.linkDamagedCharacter .parity) s (fun d =>
         d = s.device.setLink
           { s.device.link with assembly := .hunting, parityErrors := up s.device.link.parityErrors })
       ∧ answers (.linkDamagedCharacter .framing) s (fun d =>
         d = s.device.setLink
           { s.device.link with assembly := .hunting, framingErrors := up s.device.link.framingErrors })
       ∧ (s.device.link.assembly ≠ .hunting →
         answers .linkGapExpiry s fun d =>
           d = s.device.setLink
             { s.device.link with assembly := .hunting, badFrames := up s.device.link.badFrames })
       ∧ answers .linkBadFrameCheck s (fun d =>
         d = s.device.setLink
           { s.device.link with assembly := .hunting, badFrames := up s.device.link.badFrames }))
    ∧ (∀ (s : State) (c kind length : Byte) (held : List Byte), running s.device = true →
         let link (a : Assembly) : Device := s.device.setLink { s.device.link with assembly := a }
         let port (a : Assembly) : Device := s.device.setService { s.device.service with assembly := a }
         (s.device.link.assembly = .hunting →
             answers (.linkGoodCharacter c) s fun d => d = link (if c = 0x7E then .assembling [] else .hunting))
           ∧ (s.device.link.assembly = .assembling [] →
             answers (.linkGoodCharacter c) s fun d => d = link (.assembling [c]))
           ∧ (s.device.link.assembly = .assembling [kind] →
             answers (.linkGoodCharacter c) s fun d =>
               d = if c.toNat ≤ 64 then link (.assembling [kind, c])
                 else s.device.setLink
                   { s.device.link with
                     assembly := .hunting,
                     badFrames := if s.device.link.badFrames < 255 then s.device.link.badFrames + 1
                       else s.device.link.badFrames })
           ∧ (s.device.link.assembly = .assembling (kind :: length :: held) → held.length < length.toNat →
             answers (.linkGoodCharacter c) s fun d => d = link (.assembling (kind :: length :: (held ++ [c]))))
           ∧ (s.device.service.assembly = .hunting →
             answers (.serviceGoodCharacter c) s fun d => d = port (if c = 0x7E then .assembling [] else .hunting))
           ∧ (s.device.service.assembly = .assembling [] →
             answers (.serviceGoodCharacter c) s fun d => d = port (.assembling [c]))
           ∧ (s.device.service.assembly = .assembling [kind] →
             answers (.serviceGoodCharacter c) s fun d =>
               d = port (if c.toNat ≤ 64 then .assembling [kind, c] else .hunting))
           ∧ (s.device.service.assembly = .assembling (kind :: length :: held) → held.length < length.toNat →
             answers (.serviceGoodCharacter c) s fun d => d = port (.assembling (kind :: length :: (held ++ [c])))))

/-- STATUS frames begin when due or each 2 s, and whatever step changes a displayed field makes one due. What becomes
of the 2 s period at a stop, and the start of the next frame at once, are the model's choice (log 27). -/
def Obligations.StatusFramesFollowChanges : Prop :=
  (∀ s : State, running s.device = true →
     let begun : Link :=
       { s.device.link with
         sending := some (statusPayload s.device), statusDue := false, periodRunning := true }
     (s.device.link.sending = none → s.device.link.statusDue = true →
         answers .statusTransmitStart s fun d => d = s.device.setLink begun)
       ∧ (s.device.link.sending = none → s.device.link.periodRunning = true →
         answers .statusPeriodExpiry s fun d => d = s.device.setLink begun)
       ∧ (s.device.link.sending ≠ none → s.device.link.statusDue = true →
         answers .statusFrameEnd s fun d => d = s.device.setLink begun)
       ∧ (s.device.link.sending ≠ none → s.device.link.statusDue = false →
         answers .statusFrameEnd s fun d => d = s.device.setLink { s.device.link with sending := none }))
    ∧ (∀ s t : State, step s = .next t → running s.device = true → running t.device = true →
         displayed t.device ≠ displayed s.device → t.device.link.statusDue = true)

/-- A frame received character by character acts exactly as the command of its kind and payload. That a character
ending a frame brings about what the frame's own row does is the model's reading (log 10). -/
def Obligations.FramesTakenByCharacters : Prop :=
  ∀ (s : State) (kind : Byte) (payload : List Byte), running s.device = true → payload.length ≤ 64 →
    (s.device.link.assembly = .hunting →
        feed .linkGoodCharacter (characterFrame kind payload) s = exec (linkCommand kind payload) s)
      ∧ (s.device.service.assembly = .hunting →
        feed .serviceGoodCharacter (characterFrame kind payload) s = exec (serviceCommand kind payload) s)

/-- Right check digits leave remainder 1 modulo 97, and one wrong digit or one exchange of neighbours is caught. -/
def Obligations.CheckDigitsCatchSlips : Prop :=
  (∀ u : List Digit, u.length = 24 →
     (checkRight u = true ↔
         digitsNumber (u.drop 22) = 98 - digitsNumber (u.take 22) * 100 % 97)
       ∧ (checkRight u = true ↔
         digitsNumber u % 97 = 1 ∧ 2 ≤ digitsNumber (u.drop 22) ∧ digitsNumber (u.drop 22) ≤ 98)
       ∧ (checkRight u = true → ∀ (i : Nat) (h : i < u.length) (x : Digit), u[i] ≠ x →
         checkRight (u.set i x) = false)
       ∧ (checkRight u = true → ∀ (i : Nat) (h : i + 1 < u.length), u[i] ≠ u[i + 1] →
         checkRight ((u.set i u[i + 1]).set (i + 1) u[i]) = false))
    ∧ ∀ (code : List Digit) (d : Device) (store : OneTime), d.oneTime = some store →
      (d.power.part = .inService
          ∨ (d.power.part = .accountLost ∧ ∃ c ∈ (unmask code store.key).head?, c = 5 ∨ c = 7)) →
        checkRight (unmask code store.key) = false → judgeCode code d = (.badCheck, none)

/-- A check completion judges its code, applies an accepted code's class and lists and records it, reports, and goes
on. That lifetime_purchased rolls over to the excess in a top-up is the model's reading (log 15). -/
def Obligations.CheckCompletionJudgesAndReports : Prop :=
  ∀ (s : State) (c : QueuedCode), s.device.codes.inCheck = some c →
    let verdict := judgeCode c.digits s.device
    let last : LastResult :=
      { ticket := c.ticket, outcome := verdict.1, classIssue := verdict.2.map fun f => (f.codeClass, f.issue) }
    answers .checkCompletion s fun d =>
      d.codes.inCheck = s.device.codes.queue.head? ∧ d.codes.queue = s.device.codes.queue.drop 1
        ∧ d.codes.nextTicket = s.device.codes.nextTicket
        ∧ (c.source = .keypad → d.keypad.outcome = some (verdict.1, .code))
        ∧ (c.source = .meterHost → d.host.lastResult = some last
            ∧ d.host.seen = s.device.host.seen ||| (1#14 <<< outcomeBit verdict.1)
            ∧ hasNotice d.host.notices .codeResult = true)
        ∧ (c.source = .service → d.service.lastResult = some last)
        ∧ ((verdict.1 ≠ .accepted ∨ ∃ f ∈ verdict.2, f.codeClass = 7) →
            keepsBut [.codes, .keypad, .log, .host, .service] s.device d
              ∧ d.codes.used = s.device.codes.used ∧ d.codes.floor = s.device.codes.floor
              ∧ d.codes.windowMinutes = s.device.codes.windowMinutes)
        ∧ (verdict.1 = .accepted → ∀ f ∈ verdict.2, f.codeClass ≠ 7 →
            (exemptCode f s.device.codes = false → issueSpent f.issue d)
              ∧ (exemptCode f s.device.codes = true →
                d.codes.used = s.device.codes.used ∧ d.codes.floor = s.device.codes.floor)
              ∧ (f.codeClass ≠ 5 → d.codes.windowMinutes = s.device.codes.windowMinutes)
              ∧ (s.device.log.next + 4 ≤ 4294967296 →
                d.log.records.getLast? = some {
                  number := d.log.next - 1, time := timeMark s.device,
                  data := .codeAccepted (f.codeClass.val * 1000000 + f.issue) f.value })
              ∧ (f.codeClass = 0 →
                d.account = (topUp f.value s.device).account ∧ d.relay = (topUp f.value s.device).relay
                  ∧ keepsBut [.codes, .keypad, .account, .relay, .log, .host, .service] s.device d)
              ∧ (f.codeClass = 1 →
                d.account = (debtSet f.value f.parameter s.device).account
                  ∧ keepsBut [.codes, .keypad, .account, .log, .host, .service] s.device d)
              ∧ (f.codeClass = 2 →
                d.tamper = (clearTamper f.parameter s.device).tamper
                  ∧ d.relay = (clearTamper f.parameter s.device).relay
                  ∧ keepsBut [.codes, .keypad, .tamper, .relay, .log, .host, .service] s.device d)
              ∧ (f.codeClass = 3 →
                d.load = (writeLimit f.value s.device).load ∧ d.relay = (writeLimit f.value s.device).relay
                  ∧ keepsBut [.codes, .keypad, .load, .relay, .log, .host, .service] s.device d)
              ∧ (f.codeClass = 4 →
                d.tariffs = (confirmTariff s.device).tariffs
                  ∧ keepsBut [.codes, .keypad, .tariffs, .log, .host, .service] s.device d)
              ∧ (f.codeClass = 5 →
                d.codes.windowMinutes = (serviceOpen f.value s.device).codes.windowMinutes
                  ∧ d.intake = (serviceOpen f.value s.device).intake
                  ∧ keepsBut [.codes, .keypad, .intake, .log, .host, .service] s.device d)
              ∧ (f.codeClass = 6 →
                d.account = (clearAccount s.device).account ∧ d.residue = 0
                  ∧ d.relay = (clearAccount s.device).relay
                  ∧ keepsBut [.codes, .keypad, .account, .residue, .relay, .log, .host, .service] s.device d))

/-- A spent issue number is refused, and stays spent through every step but COMMISSION and RESTORE_ACCOUNT. -/
def Obligations.SpentIssueIsNeverAcceptedAgain : Prop :=
  (∀ (f : CodeFields) (d : Device), f.codeClass.val < 7 → exemptCode f d.codes = false → issueSpent f.issue d →
     judgeFields f d = .duplicate ∨ judgeFields f d = .tooOld)
    ∧ (∀ (s t : State) (n : Nat), UsedSound s.device → step s = .next t →
         (t.device.power.part = .inService →
             s.device.power.part ≠ .uncommissioned ∧ s.device.power.part ≠ .accountLost) →
           issueSpent n s.device → issueSpent n t.device)

/-- Every step keeps the used-code list ascending within 48 and its floor, and the queue within 4 with one KEYPAD
code. -/
def Obligations.CodeStoresStaySound : Prop :=
  (∀ s t : State, UsedSound s.device → step s = .next t → UsedSound t.device)
    ∧ (∀ s t : State, QueueSound s.device → step s = .next t → QueueSound t.device)

/-- SUBMIT_CODE queues 24 digits with the next ticket, or answers QUEUE_FULL or BAD_VALUE. -/
def Obligations.SubmitCodeQueuesWithTicket : Prop :=
  ∀ (s : State) (p : List Byte),
    let full : Bool := decide (4 ≤ s.device.codes.queue.length)
    let waiting := s.device.codes.inCheck.toList ++ s.device.codes.queue
    let answer : Answer :=
      match codeOf p with
      | none => refusal .badValue
      | some _ => if full then refusal .queueFull
          else { result := .queued, data := beBytes 1 s.device.codes.nextTicket }
    let taken (source : CodeSource) (d : Device) : Prop :=
      match codeOf p with
      | none => d.codes = s.device.codes
      | some digits =>
        if full then d.codes = s.device.codes
        else d.codes.inCheck.toList ++ d.codes.queue
              = waiting ++ [{ source := source, digits := digits, ticket := s.device.codes.nextTicket }]
            ∧ d.codes.nextTicket = (if s.device.codes.nextTicket < 255 then s.device.codes.nextTicket + 1 else 0)
            ∧ d.codes.used = s.device.codes.used ∧ d.codes.floor = s.device.codes.floor
    (hostReady p s.device →
        answers (.hostSubmitCode p) s fun d =>
          responded answer s.device d ∧ taken .meterHost d ∧ keepsBut [.codes, .host] s.device d)
      ∧ (serviceReady 0x4C p s.device →
        answers (.serviceSubmitCode p) s fun d =>
          replied 0x4C answer s.device d ∧ taken .service d ∧ keepsBut [.codes, .service] s.device d)

/-- A drive completion settles a confirmed operation; an unconfirmed attempt retries, then sticks; RETRY_RELAY leaves
STUCK. That RETRY_RELAY is answered with no data is the model's reading (log 21). -/
def Obligations.RelayOperationsSettleRetryAndStick : Prop :=
  (∀ (s : State) (a : Attempt), running s.device = true → a.driving = true →
     (s.device.relay.state = .opening a →
         answers .driveCompletion s fun d =>
           (a.confirmed = false → a.auxAtStart = true →
               d.relay = { s.device.relay with state := .opening { a with driving := false } }
                 ∧ keepsBut [.relay] s.device d)
             ∧ (a.confirmed = true ∨ a.auxAtStart = false →
               d.relay = { s.device.relay with
                   lastConfirmed := .open,
                   state := if s.device.relay.reasons.isEmpty then .reconnectReady else .open }
                 ∧ keepsBut [.relay, .log, .host] s.device d))
       ∧ (s.device.relay.state = .closing a →
         answers .driveCompletion s fun d =>
           (a.confirmed = false → a.auxAtStart = true →
               d.relay = { s.device.relay with state := .closing { a with driving := false } }
                 ∧ keepsBut [.relay] s.device d)
             ∧ (a.confirmed = true ∨ a.auxAtStart = false →
               d.relay = { s.device.relay with
                   lastConfirmed := .closed,
                   state := if s.device.relay.reasons.isEmpty then .closed
                     else (startAttempt .open false s.device).relay.state }
                 ∧ d.intake = { s.device.intake with openEnergy := 0 }
                 ∧ keepsBut [.relay, .intake, .log, .host] s.device d)))
    ∧ (∀ (s : State) (a : Attempt),
         let stuck (cause : FaultCause) (target : Position) (d : Device) : Prop :=
           d.relay.state = .stuck target ∧ d.relay.lastConfirmed = s.device.relay.lastConfirmed
             ∧ d.relay.fault = some
                 (match s.device.relay.fault with
                   | none => { cause := cause, time := timeMark s.device, multiple := false }
                   | some f => { f with multiple := true })
             ∧ keepsBut [.relay, .log, .host] s.device d
         (s.device.relay.state = .opening a → a.driving = false → a.confirmed = false → a.waiting = false →
             (a.second = true → answers .confirmationExpiry s (stuck .openFailed .open))
               ∧ (a.second = false → answers .confirmationExpiry s fun d =>
                 d = s.device.setRelay { s.device.relay with state := .opening { a with waiting := true } }))
           ∧ (s.device.relay.state = .closing a → a.driving = false → a.confirmed = false → a.waiting = false →
             (a.second = true → answers .confirmationExpiry s (stuck .closeFailed .closed))
               ∧ (a.second = false → s.device.relay.reasons.isEmpty = true → answers .confirmationExpiry s fun d =>
                 d = s.device.setRelay { s.device.relay with state := .closing { a with waiting := true } })
               ∧ (a.second = false → s.device.relay.reasons.isEmpty = false →
                 answers .confirmationExpiry s fun d => keepsBut [.relay] s.device d
                   ∧ d.relay = (startAttempt .open false s.device).relay))
           ∧ (s.device.relay.state = .opening a → a.waiting = true →
             answers .retryExpiry s fun d => keepsBut [.relay] s.device d
               ∧ d.relay = (startAttempt .open true s.device).relay)
           ∧ (s.device.relay.state = .closing a → a.waiting = true →
             answers .retryExpiry s fun d => keepsBut [.relay] s.device d
               ∧ (s.device.relay.reasons.isEmpty = true → d.relay = (startAttempt .closed true s.device).relay)
               ∧ (s.device.relay.reasons.isEmpty = false → d.relay = (startAttempt .open false s.device).relay))
           ∧ (watchRunning s.device = true → ∀ p ∈ settledPosition s.device.relay.state,
             answers .positionWatchExpiry s (stuck .unexpectedPosition p)))
    ∧ (∀ (s : State) (p : Position), serviceReady 0x55 [] s.device → 0 < s.device.codes.windowMinutes →
         s.device.relay.state = .stuck p →
           answers (.retryRelay []) s fun d =>
             d.relay = {
                 (startAttempt (if s.device.relay.reasons.isEmpty then .closed else .open) false s.device).relay with
                   fault := none }
               ∧ replied 0x55 (accepted []) s.device d ∧ keepsBut [.relay, .service] s.device d)

/-- On mains the relay is never held CLOSED or RECONNECT_READY with a reason, nor OPEN with none; off mains none
moves. -/
def Obligations.RelayStateFitsReasons : Prop :=
  ∀ s t : State, PowerSound s.device → RelaySound s.device → step s = .next t →
    PowerSound t.device ∧ RelaySound t.device

/-- No step raises CLOSE_DRIVE while any open reason is present. -/
def Obligations.CloseDriveNeedsEmptySet : Prop :=
  ∀ s t : State, PowerSound s.device → RelaySound s.device → step s = .next t →
    closeDrive s.device = false → closeDrive t.device = true →
      t.device.relay.reasons.isEmpty = true ∧ running t.device = true
        ∧ (s.device.relay.state = .reconnectReady ∨ relayName s.device.relay.state = .stuck
          ∨ ∃ a, s.device.relay.state = .closing a ∧ a.waiting = true)

/-- RETRY_RELAY in a settled state clears the fault record and drives nothing; in flight it is refused BUSY. That it
is answered with no data is the model's reading (log 21). -/
def Obligations.RetryRelayOutsideStuck : Prop :=
  ∀ s : State, serviceReady 0x55 [] s.device → 0 < s.device.codes.windowMinutes →
    ((settledPosition s.device.relay.state).isSome = true →
        answers (.retryRelay []) s fun d =>
          d.relay = { s.device.relay with fault := none } ∧ replied 0x55 (accepted []) s.device d
            ∧ keepsBut [.relay, .service] s.device d)
      ∧ (inOperation s.device.relay.state = true →
        answers (.retryRelay []) s fun d =>
          replied 0x55 (refusal .busy) s.device d ∧ keepsBut [.service] s.device d)

/-- A sensed line times a changed level, and its filtered change is detected, deferred or handed to the relay. -/
def Obligations.SenseLinesFilterAndDetect : Prop :=
  ∀ (s : State) (l : Line),
    let entry := s.device.tamper.table[l]
    let line := s.device.tamper.lines[l]
    let moved : Device :=
      s.device.setTamper { s.device.tamper with
        lines := s.device.tamper.lines.set l
          { line with filtered := levelActive entry line.raw, timing := false } }
    let settled (p : Position) (d : Device) : Prop :=
      d.relay = { s.device.relay with lastConfirmed := p, state := settledOn p moved }
        ∧ d.intake = (match p with
          | .open => s.device.intake
          | .closed => { s.device.intake with openEnergy := 0 })
    (∀ level : Level, level ≠ line.raw →
        answers (.senseLineChange l level) s fun d =>
          d = s.device.setTamper { s.device.tamper with
              lines := s.device.tamper.lines.set l
                { line with
                  raw := level,
                  timing := if sensed s.device l then levelActive entry level != line.filtered else line.timing } })
      ∧ (sensed s.device l = true → line.timing = true → alwaysOn entry.function = true →
        ∀ x ∈ functionSource entry.function,
          answers (.senseFilterExpiry l) s fun d =>
            d.tamper.lines = moved.tamper.lines ∧ d.tamper.table = s.device.tamper.table
              ∧ keepsBut [.tamper, .relay, .log, .host] s.device d
              ∧ (functionActive s.device entry.function = false → levelActive entry line.raw = true →
                  s.device.power.part ≠ .initializing →
                    (sourceEntry d x).count = raiseCount (sourceEntry s.device x).count
                      ∧ (sourceEntry d x).latched = ((sourceEntry s.device x).latched || !exempted x s.device)
                      ∧ (∀ y, y ≠ x → sourceEntry d y = sourceEntry s.device y)
                      ∧ d.tamper.deferred = s.device.tamper.deferred)
              ∧ (functionActive s.device entry.function = false → levelActive entry line.raw = true →
                  s.device.power.part = .initializing →
                    d.tamper.sources = s.device.tamper.sources
                      ∧ d.tamper.deferred = noteDeferred entry.function s.device.tamper.deferred
                      ∧ keepsBut [.tamper] s.device d)
              ∧ (functionActive s.device entry.function = true ∨ levelActive entry line.raw = false →
                  d.tamper.sources = s.device.tamper.sources ∧ d.tamper.deferred = s.device.tamper.deferred
                    ∧ keepsBut [.tamper] s.device d))
      ∧ (sensed s.device l = true → line.timing = true → entry.function = .reconnectButton →
        answers (.senseFilterExpiry l) s fun d =>
          d.tamper = moved.tamper ∧ keepsBut [.tamper, .relay] s.device d
            ∧ d.relay = (if functionActive s.device .reconnectButton = false
                  ∧ functionActive moved .reconnectButton = true ∧ s.device.relay.state = .reconnectReady then
                (startAttempt .closed false s.device).relay
              else s.device.relay))
      ∧ (∀ p, sensed s.device l = true → line.timing = true → entry.function = .auxContact →
        auxPosition moved = some p →
          answers (.senseFilterExpiry l) s fun d =>
            d.tamper = moved.tamper
              ∧ keepsBut [.tamper, .relay, .intake, .log, .host] s.device d
              ∧ (auxPosition s.device = some p → keepsBut [.tamper] s.device d)
              ∧ ((settledPosition s.device.relay.state).isSome = true → keepsBut [.tamper] s.device d)
              ∧ (∀ a q, operation s.device.relay.state = some (q, a) → q ≠ p → keepsBut [.tamper] s.device d)
              ∧ (∀ q, s.device.relay.state = .stuck q → q ≠ p → keepsBut [.tamper] s.device d)
              ∧ (∀ a, auxPosition s.device ≠ some p → operation s.device.relay.state = some (p, a) →
                (a.waiting = true → settled p d)
                  ∧ (a.waiting = false → a.auxAtStart = true → a.confirmed = false → a.driving = false →
                    settled p d)
                  ∧ (a.waiting = false → a.auxAtStart = true → a.confirmed = false → a.driving = true →
                    d.relay = { s.device.relay with state := operationState p { a with confirmed := true } }
                      ∧ keepsBut [.tamper, .relay] s.device d)
                  ∧ (a.waiting = false → a.auxAtStart = false ∨ a.confirmed = true →
                    keepsBut [.tamper] s.device d))
              ∧ (auxPosition s.device ≠ some p → s.device.relay.state = .stuck p → settled p d))

/-- A latched tamper source becomes unlatched only at the acceptance of a CLEAR_TAMPER code naming it. -/
def Obligations.LatchFallsOnlyByClearingCode : Prop :=
  ∀ (s t : State) (x : Source), step s = .next t →
    (sourceEntry s.device x).latched = true → (sourceEntry t.device x).latched = false →
      ∃ (rest : List Instr) (c : QueuedCode) (f : CodeFields),
        s.pending = .checkCompletion :: rest ∧ s.device.codes.inCheck = some c
          ∧ judgeCode c.digits s.device = (.accepted, some f) ∧ f.codeClass = 2
          ∧ (f.parameter = (sourceNumber x).val ∨ f.parameter = 99)

/-- After every step CREDIT, ACCOUNT, TAMPER and LOAD are present exactly when the condition of their owner holds. -/
def Obligations.ReasonsFollowTheirOwners : Prop :=
  (∀ s t : State, ReasonsSound s.device → step s = .next t → ReasonsSound t.device)
    ∧ (∀ s t : State, LoadSound s.device → step s = .next t → LoadSound t.device)

/-- A meter test runs only in IN_SERVICE on mains under an OPEN window, for less than an hour, after every step. -/
def Obligations.TestRunsOnlyUnderOpenWindow : Prop :=
  ∀ s t : State, TestSound s.device → step s = .next t → TestSound t.device

/-- Every step keeps at most 64 ascending records, the cursors within the numbering, and every latch's record held. -/
def Obligations.LogStaysSound : Prop :=
  ∀ s t : State, LogSound s.device → step s = .next t → LogSound t.device

/-- READ_LOG delivers the oldest due records and moves its own cursor past them; MARK and RETURN_TO_MARK keep a place.
The layout of the service port's READ_LOG data is the model's choice (log 46). -/
def Obligations.LogReadsMoveTheirOwnCursor : Prop :=
  (∀ s : State, (heldNumbers s.device.log).Pairwise (· < ·) →
     (∀ batch cursor : Nat, 0 < batch →
         dueRecords cursor s.device.log
             = delivered batch cursor s.device.log
               ++ dueRecords (cursorAfter batch cursor s.device.log) s.device.log
           ∧ cursor ≤ cursorAfter batch cursor s.device.log
           ∧ cursorAfter batch cursor s.device.log
             = cursor + (delivered batch cursor s.device.log).length
               + skippedCount batch cursor s.device.log)
       ∧ (running s.device = true →
         answers (.hostReadLog []) s fun d =>
           d.log = { s.device.log with hostCursor := cursorAfter 4 s.device.log.hostCursor s.device.log }
             ∧ responded (accepted (readLogData 4 s.device.log.hostCursor s.device.log)) s.device d
             ∧ keepsBut [.log, .host] s.device d)
       ∧ (serviceReady 0x49 [] s.device →
         answers (.serviceReadLog []) s fun d =>
           d.log = { s.device.log with serviceCursor := cursorAfter 2 s.device.log.serviceCursor s.device.log }
             ∧ replied 0x49 (accepted (readLogData 2 s.device.log.serviceCursor s.device.log)) s.device d
             ∧ keepsBut [.log, .service] s.device d))
    ∧ (∀ s : State, running s.device = true →
         answers (.mark []) s (fun d =>
             d.log = { s.device.log with mark := some s.device.log.hostCursor }
               ∧ responded (accepted (beBytes 5 s.device.log.hostCursor)) s.device d
               ∧ keepsBut [.log, .host] s.device d)
           ∧ (∀ m, s.device.log.mark = some m →
             answers (.returnToMark []) s fun d =>
               d.log = { s.device.log with hostCursor := m } ∧ responded (accepted (beBytes 5 m)) s.device d
                 ∧ keepsBut [.log, .host] s.device d)
           ∧ (s.device.log.mark = none →
             answers (.returnToMark []) s fun d =>
               responded (refusal .noMark) s.device d ∧ keepsBut [.host] s.device d))

/-- SEEK_OLDEST and SEEK_NEWEST set their port's cursor to the lowest and the highest number held. -/
def Obligations.SeekMovesItsOwnCursor : Prop :=
  (∀ (s : State) (low high : Nat), (heldNumbers s.device.log).Pairwise (· < ·) →
     low ∈ heldNumbers s.device.log → (∀ n ∈ heldNumbers s.device.log, low ≤ n) →
       high ∈ heldNumbers s.device.log → (∀ n ∈ heldNumbers s.device.log, n ≤ high) →
         (running s.device = true →
             answers (.hostSeekOldest []) s (fun d =>
                 d.log = { s.device.log with hostCursor := low }
                   ∧ responded (accepted (beBytes 5 low)) s.device d ∧ keepsBut [.log, .host] s.device d)
               ∧ answers (.hostSeekNewest []) s (fun d =>
                 d.log = { s.device.log with hostCursor := high }
                   ∧ responded (accepted (beBytes 5 high)) s.device d ∧ keepsBut [.log, .host] s.device d))
           ∧ (serviceReady 0x4A [] s.device →
             answers (.serviceSeekOldest []) s fun d =>
               d.log = { s.device.log with serviceCursor := low }
                 ∧ replied 0x4A (accepted (beBytes 5 low)) s.device d ∧ keepsBut [.log, .service] s.device d)
           ∧ (serviceReady 0x4B [] s.device →
             answers (.serviceSeekNewest []) s fun d =>
               d.log = { s.device.log with serviceCursor := high }
                 ∧ replied 0x4B (accepted (beBytes 5 high)) s.device d ∧ keepsBut [.log, .service] s.device d))
    ∧ ∀ s t : State, step s = .next t →
      (s.device.log.records ≠ []
          ∨ (s.device.power.part = .initializing ∧ s.device.power.storeIntact = false
            ∧ t.device.power.part ≠ .initializing)) →
        t.device.log.records ≠ []

/-- The six read requests of the meter host answer the readouts and change no block. The layout of a CLOSED window's
minutes, of the trip history, of absent fields and of the source entries is the model's (logs 16, 17, 30 and 33). -/
def Obligations.HostReadsChangeNoBlock : Prop :=
  ∀ s : State,
    let only (c : Instr) (a : Answer) : Prop :=
      answers c s fun d => responded a s.device d ∧ keepsBut [.host] s.device d
    (running s.device = true →
        only (.getStatus []) (accepted (hostStatus s.device).flatten)
          ∧ only (.getAccount []) (accepted (accountData s.device))
          ∧ only (.getDemand []) (accepted (demandFields s.device.load).flatten)
          ∧ only (.getTamper []) (accepted (tamperFields s.device).flatten)
          ∧ only (.getRelayFault []) (accepted (faultBytes s.device.relay.fault))
          ∧ only (.getTariff [0x00])
              (accepted (tariffPage0 s.device.tariffs.active ++ tariffPage1 s.device.tariffs.active none))
          ∧ only (.getTariff [0x01])
              (match s.device.tariffs.pending with
                | none => refusal .noPending
                | some p => accepted (tariffPage0 p.tariff ++ tariffPage1 p.tariff (some p.confirmed))))
      ∧ ∀ (b : Byte) (p : List Byte), hostReady (b :: p) s.device →
          only (.getStatus (b :: p)) (refusal .badValue) ∧ only (.getAccount (b :: p)) (refusal .badValue)
            ∧ only (.getDemand (b :: p)) (refusal .badValue) ∧ only (.getTamper (b :: p)) (refusal .badValue)
            ∧ only (.getRelayFault (b :: p)) (refusal .badValue)
            ∧ (1 < b.toNat → only (.getTariff (b :: p)) (refusal .badValue))

/-- Bad frames and unknown codes are answered unserved, responses read with right checks, and bus transactions end or
are abandoned. That bus events are functions beside the commands, and that a read keeps the buffer of its beginning,
are the model's (log 12). -/
def Obligations.BadFramesAndReadsOfTheBuffer : Prop :=
  (∀ (s : State) (code : Byte), running s.device = true →
      answers .hostBadFrame s (fun d =>
          d.host = { s.device.host with
              response := .preparing (refusal .badFrame),
              badFrames := if s.device.host.badFrames < 255 then s.device.host.badFrames + 1
                else s.device.host.badFrames }
            ∧ keepsBut [.host] s.device d)
        ∧ (code = 0x00 ∨ 0x16 < code.toNat →
          answers (.hostUnknownRequest code) s fun d =>
            responded (refusal .unknownRequest) s.device d ∧ keepsBut [.host] s.device d)
        ∧ ∀ a, s.device.host.response = .preparing a →
          answers .responseCompletion s fun d =>
            d.host = { s.device.host with response := .ready a } ∧ keepsBut [.host] s.device d)
    ∧ (∀ a : Answer,
         sumsToZero (readBytes (.ready a)) = true
           ∧ (readBytes (.ready a)).length = a.data.length + 4
           ∧ (readBytes (.ready a)).take (a.data.length + 3)
               = [0xA5, BitVec.ofNat 8 (resultCode a.result), BitVec.ofNat 8 a.data.length] ++ a.data
           ∧ (∀ k, a.data.length + 4 ≤ k → hostReadByte (.ready a) k = 0xFF)
           ∧ hostReadByte (.preparing a) 0 = 0x5B ∧ hostReadByte .empty 0 = 0x3C
           ∧ ∀ k, 0 < k → hostReadByte (.preparing a) k = 0xFF ∧ hostReadByte .empty k = 0xFF)
    ∧ (∀ (s : State) (address : Byte) (bytes : List Byte),
         running s.device = true → s.device.host.transaction = .idle →
           let written := bytes.foldl (fun d c => writeBusByte c d) (beginTransaction address .write s.device)
           (address ≠ s.device.host.address →
               ∀ direction, beginTransaction address direction s.device = s.device)
             ∧ (address = s.device.host.address →
               acknowledgesByte written = true
                 ∧ (∀ i, hostCommand bytes = some i → stopCondition { s with device := written } = exec i s)
                 ∧ (bytes = [] → stopCondition { s with device := written } = .next s)
                 ∧ ∀ k, suppliedByte ((clockBusByte true)^[k] (beginTransaction address .read s.device))
                     = some (hostReadByte s.device.host.response k)))
    ∧ ∀ s : State,
      let abandoned (d : Device) : Prop :=
        d.host.transaction = .idle ∧ arrivalAtEnd d = none ∧ suppliedByte d = none
      (running s.device = true →
          answers .mainsLoss s abandoned
            ∧ answers (.hostRestart []) s fun d => d.host.transaction = s.device.host.transaction)
        ∧ (alive s.device = true → s.device.power.resetAsserted = false → answers .resetAssert s abandoned)
        ∧ (alive s.device = true → answers .backupAndMainsLost s abandoned)


/-- GET_NOTICES and GET_CODE_RESULT report and empty their set exactly; the mask alone gates the NOTICE line. -/
def Obligations.NoticesAndOutcomesCollectedOnce : Prop :=
  (∀ s : State,
     (running s.device = true →
         answers (.getNotices []) s fun d =>
           d.host = { s.device.host with
               notices := 0, response := .preparing (accepted (beBytes 2 s.device.host.notices.toNat)) }
             ∧ keepsBut [.host] s.device d ∧ noticeLine d = false)
       ∧ (∀ p : List Byte, hostReady p s.device →
         answers (.setNoticeEnable p) s fun d =>
           keepsBut [.host] s.device d
             ∧ (p.length = 2 → beNat p < 512 →
                 d.host = { s.device.host with
                   enabled := BitVec.ofNat 9 (beNat p),
                   response := .preparing (accepted (beBytes 2 (beNat p))) })
             ∧ (¬ (p.length = 2 ∧ beNat p < 512) → responded (refusal .badValue) s.device d))
       ∧ (noticeLine s.device = true ↔
         running s.device = true
           ∧ ∃ n, hasNotice s.device.host.notices n = true ∧ hasNotice s.device.host.enabled n = true))
    ∧ (∀ s : State, running s.device = true →
         answers (.getCodeResult []) s fun d =>
           d.host = { s.device.host with
               seen := 0,
               response := .preparing
                 (accepted (lastResultBytes s.device.host.lastResult ++ beBytes 2 s.device.host.seen.toNat)) }
             ∧ keepsBut [.host] s.device d)

/-- The meter host moves a SET clock by at most 300 s; the technician sets any time; both zero the demand window. That
the service port answers with no data is the model's reading (log 21). -/
def Obligations.SetTimeClampsTheHostOnly : Prop :=
  ∀ (s : State) (p : List Byte) (t : MeterTime), timeOf p = some t →
    let now : Int := timeSeconds s.device.clock.now
    let step : Int := timeSeconds t - now
    let common (d : Device) : Prop :=
      d.clock.isSet = true ∧ d.load.slots = Vector.replicate 12 0
        ∧ d.relay.reasons.credit = creditReasonOf d
        ∧ (s.device.clock.isSet = false → d.clock.lastCharged = some t.day)
    (running s.device = true → t.second ≤ 86399 → s.device.clock.now.day ≤ 65535 →
        s.device.clock.now.second ≤ 86399 →
          answers (.hostSetTime p) s fun d =>
            common d
              ∧ (s.device.clock.isSet = false → d.clock.now = t)
              ∧ (s.device.clock.isSet = true → -300 ≤ step → step ≤ 300 → d.clock.now = t)
              ∧ (s.device.clock.isSet = true → 300 < step → (timeSeconds d.clock.now : Int) = now + 300
                  ∧ hasNotice d.host.notices .timeClamped = true)
              ∧ (s.device.clock.isSet = true → step < -300 → (timeSeconds d.clock.now : Int) = max 0 (now - 300)
                  ∧ hasNotice d.host.notices .timeClamped = true)
              ∧ d.host.response = .preparing
                  (accepted (meterTimeBytes (some d.clock.now)
                    ++ yesNo (s.device.clock.isSet && decide (step < -300 ∨ 300 < step)))))
      ∧ (serviceReady 0x50 p s.device → 0 < s.device.codes.windowMinutes → t.second ≤ 86399 →
        answers (.serviceSetTime p) s fun d =>
          common d ∧ d.clock.now = t ∧ replied 0x50 (accepted []) s.device d)
      ∧ (running s.device = true → 86399 < t.second →
        answers (.hostSetTime p) s fun d => responded (refusal .badValue) s.device d ∧ keepsBut [.host] s.device d)
      ∧ (serviceReady 0x50 p s.device → 0 < s.device.codes.windowMinutes → 86399 < t.second →
        answers (.serviceSetTime p) s fun d =>
          replied 0x50 (refusal .badValue) s.device d ∧ keepsBut [.service] s.device d)

/-- REMOTE_HOLD, REMOTE_RELEASE, SERVICE_HOLD and SERVICE_RELEASE add and remove their own reason alone. -/
def Obligations.HoldsAndReleasesChangeTheirReason : Prop :=
  ∀ (s : State) (hold : Bool), running s.device = true →
    let moves (d : Device) (r : Reasons) : Prop :=
      d.relay.reasons = r
        ∧ (s.device.relay.state = .closed → r ≠ s.device.relay.reasons → r.isEmpty = false → openDrive d = true)
        ∧ (s.device.relay.state = .open → r ≠ s.device.relay.reasons → r.isEmpty = true →
            d.relay.state = .reconnectReady)
    answers (if hold then .remoteHold [] else .remoteRelease []) s (fun d =>
        moves d { s.device.relay.reasons with remote := hold }
          ∧ d.host.response
            = .preparing (accepted (beBytes 1 (reasonsCode { s.device.relay.reasons with remote := hold })))
          ∧ keepsBut [.relay, .log, .host] s.device d)
      ∧ (serviceReady (if hold then 0x53 else 0x54) [] s.device → 0 < s.device.codes.windowMinutes →
        answers (if hold then .serviceHold [] else .serviceRelease []) s fun d =>
          moves d { s.device.relay.reasons with service := hold }
            ∧ replied (if hold then 0x53 else 0x54)
                (accepted (beBytes 1 (reasonsCode { s.device.relay.reasons with service := hold }))) s.device d
            ∧ keepsBut [.relay, .log, .host, .service] s.device d)

/-- CANCEL_PENDING removes a pending tariff with its flag or answers NO_PENDING; the service port raises TARIFF. That
the service port answers with no data is the model's reading (log 21). -/
def Obligations.PendingTariffCancelled : Prop :=
  ∀ s : State,
    (running s.device = true →
        (s.device.tariffs.pending ≠ none →
            answers (.hostCancelPending []) s fun d =>
              d.tariffs = { s.device.tariffs with pending := none } ∧ responded (accepted []) s.device d
                ∧ keepsBut [.tariffs, .host] s.device d)
          ∧ (s.device.tariffs.pending = none →
            answers (.hostCancelPending []) s fun d =>
              responded (refusal .noPending) s.device d ∧ keepsBut [.host] s.device d))
      ∧ (serviceReady 0x52 [] s.device →
        (s.device.codes.windowMinutes = 0 →
            answers (.serviceCancelPending []) s fun d =>
              replied 0x52 (refusal .windowClosed) s.device d ∧ keepsBut [.service] s.device d)
          ∧ (0 < s.device.codes.windowMinutes → s.device.tariffs.pending ≠ none →
            answers (.serviceCancelPending []) s fun d =>
              d.tariffs = { s.device.tariffs with pending := none } ∧ replied 0x52 (accepted []) s.device d
                ∧ d.host = { s.device.host with notices := s.device.host.notices ||| noticeSet .tariff }
                ∧ keepsBut [.tariffs, .host, .service] s.device d)
          ∧ (0 < s.device.codes.windowMinutes → s.device.tariffs.pending = none →
            answers (.serviceCancelPending []) s fun d =>
              replied 0x52 (refusal .noPending) s.device d ∧ keepsBut [.service] s.device d))

/-- PUT_PENDING_TARIFF stores a valid record unconfirmed and refuses any other, the pending one standing. That the
service port answers with no data, and that parameters shorter than the fixed fields are BAD_VALUE, are the model's
reading (logs 21 and 41). -/
def Obligations.PendingTariffPut : Prop :=
  ∀ (s : State) (p : List Byte),
    let answer : Answer :=
      match packedTariff p with
      | none => refusal .badValue
      | some t => if validTariff t then accepted [] else refusal .badTariff
    let stored (d : Device) : Prop :=
      match packedTariff p with
      | none => d.tariffs = s.device.tariffs
      | some t =>
        d.tariffs = if validTariff t then
            { active := s.device.tariffs.active, pending := some { tariff := t, confirmed := false } }
          else s.device.tariffs
    (hostReady p s.device →
        answers (.hostPutPendingTariff p) s fun d =>
          stored d ∧ responded answer s.device d ∧ keepsBut [.tariffs, .host] s.device d)
      ∧ (serviceReady 0x51 p s.device → 0 < s.device.codes.windowMinutes →
        answers (.servicePutPendingTariff p) s fun d =>
          stored d ∧ replied 0x51 answer s.device d ∧ keepsBut [.tariffs, .host, .service] s.device d
            ∧ d.host.notices = (if answer.result = .accepted then s.device.host.notices ||| noticeSet .tariff
                else s.device.host.notices))

/-- REPORT_METROLOGY_TAMPER is one METROLOGY detection at every arrival, answered with the entry after it. The layout
of the entry in the answer is the model's (logs 30 and 33). -/
def Obligations.MetrologyReportDetected : Prop :=
  ∀ (s : State) (detail : Byte), running s.device = true →
    let e := sourceEntry s.device .metrology
    answers (.reportMetrologyTamper [detail]) s fun d =>
      let f := sourceEntry d .metrology
      f.latched = true ∧ f.action = e.action ∧ f.count = (if e.count < 255 then e.count + 1 else e.count)
        ∧ (∀ x, x ≠ Source.metrology → sourceEntry d x = sourceEntry s.device x)
        ∧ d.host.response = .preparing (accepted (sourceBytes f))
        ∧ keepsBut [.tamper, .relay, .log, .host] s.device d
        ∧ (e.latched = true → f = { e with count := f.count } ∧ d.log = s.device.log
            ∧ d.relay = s.device.relay)
        ∧ (e.latched = false → f.firstTime = some (timeMark s.device)
            ∧ (logRoom 1 s.device → f.record = some s.device.log.next
                ∧ { number := s.device.log.next, time := timeMark s.device,
                    data := LogData.tamper .metrology (some detail) } ∈ d.log.records))

/-- RESTART aborts the codes, clears the entry, counts, window slots and mark, and leaves {RESTARTED} pending. That
the service port answers with no data is the model's reading (log 21). -/
def Obligations.RestartClearsWorkingState : Prop :=
  ∀ s : State,
    let cleared (d : Device) : Prop :=
      d.intake.testActive = false ∧ d.codes = { s.device.codes with inCheck := none, queue := [] }
        ∧ d.keypad.buffer = [] ∧ d.keypad.stepTimer = 0 ∧ d.keypad.page = 0 ∧ d.keypad.inactivity = 0
        ∧ linkBody d.link
            = linkBody { s.device.link with parityErrors := 0, framingErrors := 0, badFrames := 0 }
        ∧ d.load = { s.device.load with slots := Vector.replicate 12 0 } ∧ d.log.mark = none
        ∧ d.host.badFrames = 0 ∧ d.host.enabled = BitVec.allOnes 9 ∧ d.host.notices = noticeSet .restarted
        ∧ keepsBut [.intake, .codes, .keypad, .link, .load, .log, .host, .service] s.device d
    (running s.device = true →
        answers (.hostRestart []) s fun d =>
          cleared d ∧ d.host.response = .preparing (accepted [])
            ∧ d.service.waiting = s.device.service.waiting
            ∧ d.service.commissioning = s.device.service.commissioning)
      ∧ (serviceReady 0x5A [] s.device → 0 < s.device.codes.windowMinutes →
        answers (.serviceRestart []) s fun d =>
          cleared d ∧ d.service.waiting = some { request := 0x5A, answer := accepted [] }
            ∧ d.host.response = s.device.host.response)

/-- The reads of the service port answer their readouts and change nothing but the response. The judgement of
READ_TARIFF's page before NO_PENDING, and the layout of a CLOSED window's minutes, of the trip history, of READ_LINK
and READ_ENERGY, of absent fields and of the source entries, are the model's (logs 16, 17, 19, 20, 30 and 33). -/
def Obligations.ServiceReadsChangeNoBlock : Prop :=
  ∀ s : State,
    let only (c : Instr) (code : Byte) (a : Answer) : Prop :=
      answers c s fun d => replied code a s.device d ∧ keepsBut [.service] s.device d
    let paged (fields : List (List Byte)) (page : Byte) : Answer :=
      match pageOf fields page.toNat with
      | some data => accepted data
      | none => refusal .badValue
    (serviceReady 0x41 [] s.device →
        only (.readAccount []) 0x41 (accepted (accountSettingsData s.device)))
      ∧ (serviceReady 0x45 [] s.device → only (.readLink []) 0x45 (accepted (linkData s.device)))
      ∧ (serviceReady 0x46 [] s.device → only (.readEnergy []) 0x46 (accepted (energyData s.device)))
      ∧ (serviceReady 0x48 [] s.device →
        only (.readCodeResult []) 0x48 (accepted (lastResultBytes s.device.service.lastResult)))
      ∧ ∀ page : Byte,
        (serviceReady 0x40 [page] s.device →
            only (.readStatus [page]) 0x40 (paged (serviceStatus s.device) page))
          ∧ (serviceReady 0x43 [page] s.device →
            only (.readDemand [page]) 0x43 (paged (demandFields s.device.load) page))
          ∧ (serviceReady 0x44 [page] s.device →
            only (.readTamper [page]) 0x44 (paged (tamperFields s.device) page))
          ∧ (serviceReady 0x47 [page] s.device →
            only (.readCodeList [page]) 0x47 (paged (codeListFields s.device.codes) page))
          ∧ (serviceReady 0x42 [0x00, page] s.device →
            only (.readTariff [0x00, page]) 0x42
              (if page = 0x00 then accepted ([0x00, 0x02] ++ tariffPage0 s.device.tariffs.active)
                else if page = 0x01 then accepted ([0x01, 0x02] ++ tariffPage1 s.device.tariffs.active none)
                else refusal .badValue))
          ∧ (serviceReady 0x42 [0x01, page] s.device →
            only (.readTariff [0x01, page]) 0x42
              (if 0x01 < page.toNat then refusal .badValue
                else match s.device.tariffs.pending with
                  | none => refusal .noPending
                  | some p =>
                    accepted ([page, 0x02]
                      ++ if page = 0x00 then tariffPage0 p.tariff else tariffPage1 p.tariff (some p.confirmed))))
          ∧ (serviceReady 0x41 [page] s.device → only (.readAccount [page]) 0x41 (refusal .badValue))
          ∧ (serviceReady 0x45 [page] s.device → only (.readLink [page]) 0x45 (refusal .badValue))
          ∧ (serviceReady 0x46 [page] s.device → only (.readEnergy [page]) 0x46 (refusal .badValue))
          ∧ (serviceReady 0x48 [page] s.device → only (.readCodeResult [page]) 0x48 (refusal .badValue))

/-- Under a CLOSED window every changing request is refused WINDOW_CLOSED and changes nothing. The discard of a
request while a response waits, before BUSY, is the model's choice (log 22). -/
def Obligations.ChangingRequestsNeedTheWindow : Prop :=
  ∀ (s : State) (code : Byte) (p : List Byte), running s.device = true →
    admitsFrame s.device.service.assembly code p = true →
      (s.device.service.waiting ≠ none →
          answers (serviceCommand code p) s fun d =>
            d = s.device.setService { s.device.service with assembly := .hunting })
        ∧ (s.device.service.waiting = none → s.device.service.commissioning ≠ none →
          answers (serviceCommand code p) s fun d =>
            replied code (refusal .busy) s.device d ∧ keepsBut [.service] s.device d)
        ∧ (s.device.service.waiting = none → s.device.service.commissioning = none →
          s.device.codes.windowMinutes = 0 → 0x4E ≤ code.toNat → code.toNat ≤ 0x5A →
            answers (serviceCommand code p) s fun d =>
              replied code (refusal .windowClosed) s.device d ∧ keepsBut [.service] s.device d)

/-- The One-Time Store is written by a COMMISSION completion in UNCOMMISSIONED and never changes after. -/
def Obligations.CommissionWritesTheStoreOnce : Prop :=
  ∀ s t : State, StoreSound s.device → step s = .next t →
    StoreSound t.device ∧ (∀ o, s.device.oneTime = some o → t.device.oneTime = some o)
      ∧ (∀ o, s.device.oneTime = none → t.device.oneTime = some o →
        s.pending.head? = some .commissionCompletion ∧ s.device.service.commissioning = some o
          ∧ s.device.power.part = .uncommissioned)

/-- COMMISSION starts the write in UNCOMMISSIONED, and its completion puts the meter into service. The count is judged
before the part state (log 20). -/
def Obligations.CommissionRequestAndCompletion : Prop :=
  ∀ (s : State) (p : List Byte), p.length = 36 →
    (serviceReady 0x4D p s.device →
        (s.device.power.part ≠ .uncommissioned →
            answers (.commission p) s fun d =>
              replied 0x4D (refusal .alreadyCommissioned) s.device d ∧ keepsBut [.service] s.device d)
          ∧ (s.device.power.part = .uncommissioned → digitsOf p = none →
            answers (.commission p) s fun d =>
              replied 0x4D (refusal .badValue) s.device d ∧ keepsBut [.service] s.device d)
          ∧ (∀ digits, s.device.power.part = .uncommissioned → digitsOf p = some digits →
            answers (.commission p) s fun d =>
              d.service = { s.device.service with
                  assembly := .hunting,
                  commissioning := some { serial := digits.take 12, key := digits.drop 12 } }
                ∧ keepsBut [.service] s.device d))
      ∧ ∀ store, s.device.service.commissioning = some store → running s.device = true →
          s.device.power.part = .uncommissioned →
        answers .commissionCompletion s fun d =>
          d.oneTime = some store ∧ d.power = { s.device.power with part := .inService }
            ∧ d.account = {
                balance := 0, emergency := 0, debt := 0, recoveryPercent := 0, purchased := 0, charged := 0,
                creditState := .exhausted }
            ∧ d.codes = { s.device.codes with used := [], floor := 0 }
            ∧ d.relay.reasons.account = false ∧ d.relay.reasons.credit = creditReasonOf d
            ∧ d.service = { s.device.service with
                commissioning := none,
                waiting := some { request := 0x4D, answer := accepted (digitBytes store.serial) } }
            ∧ keepsBut [.power, .account, .codes, .relay, .log, .host, .service, .oneTime] s.device d

/-- WRITE_CONFIG clamps the carried value by Table 10-3, records and stores it, and answers what it stored. The layout
of the parameters and of the response is the model's choice (log 18). -/
def Obligations.WriteConfigStoresTheClampedValue : Prop :=
  (∀ (s : State) (p : List Byte), serviceReady 0x4E p s.device → 0 < s.device.codes.windowMinutes →
     (configWrite p = none →
         answers (.writeConfig p) s fun d =>
           replied 0x4E (refusal .badValue) s.device d ∧ keepsBut [.service] s.device d)
       ∧ ∀ w, configWrite p = some w →
         answers (.writeConfig p) s fun d =>
           configHeld w d ∧ replied 0x4E (accepted (configData w)) s.device d
             ∧ d.codes = { s.device.codes with validityDays := d.codes.validityDays }
             ∧ keepsBut [.account, .settings, .codes, .link, .relay, .load, .tamper, .log, .host, .service]
                 s.device d
             ∧ (logRoom 3 s.device →
                 d.log.records.take (s.device.log.records.length + 1)
                   = s.device.log.records
                     ++ [{ number := s.device.log.next, time := timeMark s.device, data := configRecord w }]))
    ∧ (∀ a b c : Byte,
        let carried := min (beNat [a, b, c]) 9999999
        configWrite [0x00, a, b, c] = some (.lowLevel carried)
          ∧ configWrite [0x02, a, b, c] = some (.emergencyAmount carried)
          ∧ configWrite [0x03, a, b, c] = some (.emergencyThreshold carried)
          ∧ configWrite [0x07, a, b, c] = some (.loadLimit (min (beNat [a, b, c]) 99999)))
    ∧ (∀ a b c e : Byte,
        configWrite [0x01, a, b, c, e]
          = some (.friendlyFloor (max (-9999999) (min 0 (beSigned [a, b, c, e])))))
    ∧ (∀ i a b c e mask : Byte,
        (∀ h : i.toNat < 4,
            configWrite [0x04, i, a, b, c, e, mask]
              = some (.friendlyWindow ⟨i.toNat, h⟩
                { start := min (beNat [a, b]) 1439, finish := min (beNat [c, e]) 1439,
                  mask := min mask.toNat 127 }))
          ∧ (4 ≤ i.toNat → configWrite [0x04, i, a, b, c, e, mask] = none))
    ∧ (∀ a b : Byte,
        let n := beNat [a, b]
        configWrite [0x05, a, b] = some (.codeValidityDays (min n 999))
          ∧ (9600 ≤ n → configWrite [0x06, a, b] = some (.linkRate .r9600))
          ∧ (4800 ≤ n → n < 9600 → configWrite [0x06, a, b] = some (.linkRate .r4800))
          ∧ (2400 ≤ n → n < 4800 → configWrite [0x06, a, b] = some (.linkRate .r2400))
          ∧ (n < 2400 → configWrite [0x06, a, b] = some (.linkRate .r1200)))
    ∧ (∀ a : Byte,
        configWrite [0x08, a] = some (.bypassThreshold (max 1 a.toNat))
          ∧ configWrite [0x09, a] = some (.reverseThreshold (max 1 a.toNat)))
    ∧ (∀ i a : Byte,
        (∀ x : Source, (sourceNumber x).val = i.toNat →
            configWrite [0x0A, i, a]
              = some (.sourceAction x (if a = 0x00 then .log else if a = 0x01 then .open else .openBlock)))
          ∧ (8 ≤ i.toNat → configWrite [0x0A, i, a] = none))
    ∧ configWrite [] = none
    ∧ ∀ (item : Byte) (rest : List Byte) (w : ConfigWrite), configWrite (item :: rest) = some w →
        [3, 4, 3, 3, 6, 2, 2, 3, 1, 1, 2][item.toNat]? = some rest.length

/-- WRITE_FUNCTION_TABLE stores the entry with its clamped filter time and re-arms the line without a detection. That
it is answered with no data is the model's reading (log 21). -/
def Obligations.FunctionTableWriteRearms : Prop :=
  ∀ (s : State) (l f pol hi lo : Byte), serviceReady 0x4F [l, f, pol, hi, lo] s.device →
    0 < s.device.codes.windowMinutes →
      (∀ (h : l.toNat < 6) (function : LineFunction) (up : Bool),
          functionOf f = some function → polarityOf pol = some up →
            answers (.writeFunctionTable [l, f, pol, hi, lo]) s fun d =>
              let entry : LineEntry :=
                { function := function, activeHigh := up,
                  filterTime := max 10 (min 2550 (hi.toNat * 256 + lo.toNat)) / 10 * 10 }
              let line := s.device.tamper.lines[l.toNat]
              d.tamper = { s.device.tamper with
                  table := s.device.tamper.table.set l.toNat entry,
                  lines := s.device.tamper.lines.set l.toNat
                    { line with filtered := levelActive entry line.raw, timing := false } }
                ∧ replied 0x4F (accepted []) s.device d
                ∧ keepsBut [.tamper, .relay, .intake, .log, .host, .service] s.device d)
        ∧ (5 < l.toNat ∨ 5 < f.toNat ∨ 1 < pol.toNat →
          answers (.writeFunctionTable [l, f, pol, hi, lo]) s fun d =>
            replied 0x4F (refusal .badValue) s.device d ∧ keepsBut [.service] s.device d)

/-- TEST_START and TEST_END end a running test with its TEST_END record; TEST_START begins a fresh one in IN_SERVICE.
That both are answered with no data, and that TEST_END leaves the test timer, are the model's (logs 21 and 43). -/
def Obligations.TestStartsAndEnds : Prop :=
  ∀ s : State, 0 < s.device.codes.windowMinutes →
    (serviceReady 0x56 [] s.device →
        (s.device.power.part = .inService →
            answers (.testStart []) s fun d =>
              d.intake = { s.device.intake with
                  testImport := Vector.replicate 3 0, testExport := Vector.replicate 3 0,
                  testActive := true, testTimer := 0 }
                ∧ replied 0x56 (accepted []) s.device d
                ∧ keepsBut [.intake, .log, .host, .service] s.device d
                ∧ (s.device.intake.testActive = false → d.log = s.device.log ∧ d.host = s.device.host)
                ∧ (s.device.intake.testActive = true → logRoom 1 s.device →
                    recorded (.testEnd s.device.intake.testImport.toList.sum .endRequest) s.device d))
          ∧ (s.device.power.part = .accountLost →
            answers (.testStart []) s fun d =>
              replied 0x56 (refusal .accountLost) s.device d ∧ keepsBut [.service] s.device d))
      ∧ (serviceReady 0x57 [] s.device →
        answers (.testEnd []) s fun d =>
          d.intake = { s.device.intake with testActive := false } ∧ replied 0x57 (accepted []) s.device d
            ∧ keepsBut [.intake, .log, .host, .service] s.device d
            ∧ (s.device.intake.testActive = false → d.log = s.device.log ∧ d.host = s.device.host)
            ∧ (s.device.intake.testActive = true → logRoom 1 s.device →
                recorded (.testEnd s.device.intake.testImport.toList.sum .endRequest) s.device d))

/-- RESTORE_ACCOUNT rebuilds a lost account with clamped values and puts the part into service. The count is judged
before the part state, and the answer has no data (logs 20 and 21). -/
def Obligations.RestoreAccountRebuilds : Prop :=
  ∀ (s : State) (p : List Byte), serviceReady 0x58 p s.device → 0 < s.device.codes.windowMinutes →
    p.length = 12 →
      (s.device.power.part ≠ .accountLost →
          answers (.restoreAccount p) s fun d =>
            replied 0x58 (refusal .wrongState) s.device d ∧ keepsBut [.service] s.device d)
        ∧ (s.device.power.part = .accountLost →
          answers (.restoreAccount p) s fun d =>
            let b : Int := max (-99999999) (min 99999999 (beSigned (p.take 4)))
            let debt := min (beNat ((p.drop 4).take 4)) 99999999
            d.account = { s.device.account with
                balance := b, debt := debt, recoveryPercent := min (beNat ((p.drop 8).take 1)) 100,
                emergency := 0, creditState := creditStateOf b s.device.settings.lowLevel }
              ∧ d.residue = 0
              ∧ d.codes = { s.device.codes with floor := min (beNat (p.drop 9)) 1000000 }
              ∧ d.power = { s.device.power with part := .inService }
              ∧ d.relay.reasons.account = false ∧ d.relay.reasons.credit = creditReasonOf d
              ∧ replied 0x58 (accepted []) s.device d
              ∧ keepsBut [.account, .residue, .codes, .power, .relay, .log, .host, .service] s.device d
              ∧ (logRoom 3 s.device →
                  d.log.records.take (s.device.log.records.length + 1)
                    = s.device.log.records
                      ++ [{ number := s.device.log.next, time := timeMark s.device,
                            data := .accountRestored b debt }]))

/-- Damage, gaps and bad checks discard a service frame uncounted; responses move from waiting to sending. The start
of a waiting response at the end of the one before, and the answer of CLEAR_LINK_COUNTS with no data, are the model's
reading (logs 28 and 21). -/
def Obligations.ServicePortFraming : Prop :=
  ∀ s : State, running s.device = true →
    let hunts (d : Device) : Prop := d = s.device.setService { s.device.service with assembly := .hunting }
    let moved (d : Device) : Prop :=
      d = s.device.setService
        { s.device.service with sending := s.device.service.waiting, waiting := none }
    answers .serviceDamagedCharacter s hunts ∧ answers .serviceGapExpiry s hunts
      ∧ answers .serviceBadFrameCheck s hunts
      ∧ (∀ (kind : Byte) (p : List Byte), serviceReady kind p s.device →
          kind.toNat < 0x40 ∨ 0x5A < kind.toNat →
            answers (.serviceUnknownRequest kind p) s fun d =>
              replied kind (refusal .unknownRequest) s.device d ∧ keepsBut [.service] s.device d)
      ∧ (s.device.service.sending = none → answers .serviceResponseTransmit s moved)
      ∧ (s.device.service.sending ≠ none → answers .serviceResponseEnd s moved)
      ∧ (serviceReady 0x59 [] s.device → 0 < s.device.codes.windowMinutes →
        answers (.clearLinkCounts []) s fun d =>
          linkBody d.link = linkBody { s.device.link with parityErrors := 0, framingErrors := 0, badFrames := 0 }
            ∧ replied 0x59 (accepted []) s.device d ∧ keepsBut [.link, .service] s.device d)

/-- A mains loss ends tests, aborts codes, abandons drives and stops the ports, after its POWER_FAIL record. -/
def Obligations.MainsLossStopsTheWork : Prop :=
  ∀ s : State, running s.device = true →
    answers .mainsLoss s fun d =>
      d.power = { s.device.power with supply := .battery } ∧ d.intake.testActive = false
        ∧ d.codes = { s.device.codes with inCheck := none, queue := [] }
        ∧ d.keypad.buffer = [] ∧ d.keypad.stepTimer = 0 ∧ d.keypad.page = 0 ∧ d.keypad.inactivity = 0
        ∧ d.load = { s.device.load with slots := Vector.replicate 12 0 }
        ∧ d.link.sending = none ∧ d.link.assembly = .hunting
        ∧ d.service.sending = none ∧ d.service.waiting = none ∧ d.service.commissioning = none
        ∧ openDrive d = false ∧ closeDrive d = false
        ∧ d.relay = { s.device.relay with
            state := if inOperation s.device.relay.state
              then settledState s.device.relay.lastConfirmed s.device.relay.reasons
              else s.device.relay.state }
        ∧ d.tamper.sources = s.device.tamper.sources
        ∧ keepsBut [.power, .intake, .codes, .keypad, .link, .relay, .load, .tamper, .log, .host, .service]
            s.device d
        ∧ (logRoom 2 s.device →
            d.log.records.take (s.device.log.records.length + 1)
              = s.device.log.records
                ++ [{ number := s.device.log.next, time := timeMark s.device, data := .powerFail }])

/-- A mains return starts the ports and resolves the relay from the auxiliary or the last confirmed position. That
reason changes of day processing wait for the resolution is the model's reading (log 13). -/
def Obligations.MainsReturnResolvesTheRelay : Prop :=
  ∀ (s : State) (strap : Level), s.device.power.supply = .battery → s.device.power.part ≠ .initializing →
    answers (.mainsReturn strap) s fun d =>
      d.power = { s.device.power with supply := .mains }
        ∧ d.intake.filters = Vector.replicate 3 .waiting
        ∧ d.host.address = (match strap with | .low => 0x24 | .high => 0x25) ∧ d.host.response = .empty
        ∧ d.link.statusDue = true
        ∧ d.tamper = (rearmLines mainsFunction s.device).tamper
        ∧ d.relay.fault = s.device.relay.fault
        ∧ ((∀ p, s.device.relay.state ≠ .stuck p) →
            d.relay.lastConfirmed = (auxPosition d).getD s.device.relay.lastConfirmed
              ∧ d.relay.state = settledOn d.relay.lastConfirmed d)
        ∧ (∀ p, s.device.relay.state = .stuck p →
            (auxPosition d = some p → d.relay.lastConfirmed = p ∧ d.relay.state = settledOn p d)
              ∧ (auxPosition d ≠ some p →
                d.relay.lastConfirmed = s.device.relay.lastConfirmed ∧ d.relay.state = .stuck p))
        ∧ keepsBut [.power, .account, .intake, .clock, .tamper, .link, .relay, .log, .host, .service] s.device d

/-- RESET asserted and the loss of supply enter INITIALIZING; its 20 ms run with MAINS_GOOD high and RESET released.
The part without supply is the model's choice (logs 25 and 26), and that deferred detections stand at a fall of
MAINS_GOOD is its reading (log 29). -/
def Obligations.ResetAndSupplyLossEnterInitializing : Prop :=
  (∀ s : State,
     (alive s.device = true → s.device.power.resetAsserted = false →
         answers .resetAssert s fun d =>
           d.power = { s.device.power with part := .initializing, resetAsserted := true, initTiming := false }
             ∧ d.relay = { s.device.relay with state := .unheld } ∧ d.intake.testActive = false
             ∧ d.codes = { s.device.codes with queue := [], inCheck := none, nextTicket := 0 }
             ∧ d.keypad.buffer = [] ∧ d.keypad.outcome = none ∧ d.keypad.lockout = s.device.keypad.lockout
             ∧ d.keypad.refusals = s.device.keypad.refusals
             ∧ d.link.parityErrors = 0 ∧ d.link.framingErrors = 0 ∧ d.link.badFrames = 0
             ∧ d.link.presence = .waitingFirst ∧ d.link.rate = s.device.link.rate
             ∧ d.load = { s.device.load with slots := Vector.replicate 12 0 }
             ∧ d.tamper.sources = s.device.tamper.sources ∧ d.tamper.table = s.device.tamper.table
             ∧ d.log.mark = none ∧ d.host.response = .empty ∧ d.host.lastResult = none ∧ d.host.badFrames = 0
             ∧ d.service = {
                 assembly := .hunting, sending := none, waiting := none, lastResult := none, commissioning := none }
             ∧ keepsBut [.power, .intake, .codes, .keypad, .link, .relay, .load, .tamper, .log, .host, .service]
                 s.device d)
       ∧ (s.device.power.resetAsserted = true → s.device.power.part = .initializing →
         answers .resetRelease s fun d =>
           d = s.device.setPower { s.device.power with
               resetAsserted := false,
               initTiming := s.device.power.initTiming || s.device.power.supply == .mains })
       ∧ (s.device.power.part = .initializing → s.device.power.supply = .battery →
         answers (.initMainsChange .high) s fun d =>
           d = s.device.setPower { s.device.power with
               supply := .mains, initTiming := !s.device.power.resetAsserted })
       ∧ (s.device.power.part = .initializing → s.device.power.supply = .mains →
         answers (.initMainsChange .low) s fun d =>
           d = s.device.setPower { s.device.power with supply := .battery, initTiming := false }))
    ∧ (∀ s : State,
         (alive s.device = true →
             answers .backupAndMainsLost s fun d =>
               d.power.supply = .none ∧ d.power.part = .initializing ∧ d.power.storeIntact = false
                 ∧ d.power.initTiming = false ∧ d.relay.state = .unheld ∧ d.oneTime = s.device.oneTime
                 ∧ d.codes.queue = [] ∧ d.codes.inCheck = none ∧ d.host.response = .empty)
           ∧ (alive s.device = false → ∀ (good : Level) (reset : Bool),
             answers (.poweredFromNothing good reset) s fun d =>
               d = s.device.setPower { s.device.power with
                   supply := (match good with | .high => .mains | .low => .battery), resetAsserted := reset,
                   initTiming := good == .high && !reset }))

/-- The end of INITIALIZING verifies the store, chooses the part state, takes deferred detections and resolves the
relay. The order of deferred detections is an operand (log 23), and the fields of an empty friendly window entry are
the model's choice (log 35). -/
def Obligations.EndOfInitializingChoosesThePart : Prop :=
  ∀ (s : State) (strap : Level) (first : List Source),
    s.device.power.part = .initializing → s.device.power.initTiming = true → s.device.power.supply = .mains →
      answers (.endOfInitializing strap first) s fun d =>
        d.power.part = (match s.device.oneTime with
            | none => .uncommissioned
            | some _ => if s.device.power.storeIntact then .inService else .accountLost)
          ∧ d.power.initTiming = false ∧ d.power.storeIntact = true ∧ d.oneTime = s.device.oneTime
          ∧ hasNotice d.host.notices .restarted = true ∧ ReasonsSound d
          ∧ d.host.address = (match strap with | .low => 0x24 | .high => 0x25)
          ∧ d.tamper.deferred = noDeferred
          ∧ (s.device.relay.state = .unheld →
              d.relay.lastConfirmed = (auxPosition d).getD
                  (if s.device.power.storeIntact then s.device.relay.lastConfirmed else .open)
                ∧ d.relay.state = settledOn d.relay.lastConfirmed d)
          ∧ (s.device.power.storeIntact = false →
              d.account = lossAccount ∧ d.settings = lossSettings ∧ d.clock = lossClock ∧ d.residue = 0
                ∧ d.tariffs = { active := lossTariff, pending := none }
                ∧ d.intake = { s.device.intake with
                    filters := Vector.replicate 3 .waiting, bands := Vector.replicate 4 0, lifetime := 0,
                    reverse := 0, openEnergy := 0 }
                ∧ d.codes = { s.device.codes with
                    used := [], floor := 1000000, validityDays := 0, windowMinutes := 0 }
                ∧ d.keypad = { s.device.keypad with refusals := 0, lockout := 0 } ∧ d.link.rate = .r2400
                ∧ d.load = { s.device.load with limit := 0, pendingLimit := none, backoff := 0, history := [] }
                ∧ d.tamper.sources = lossSources ∧ d.tamper.table = lossTable
                ∧ d.tamper.bypassThreshold = 10 ∧ d.tamper.reverseThreshold = 20
                ∧ (∀ l : Line, d.tamper.lines[l]
                    = { s.device.tamper.lines[l] with
                        filtered := levelActive lossTable[l] s.device.tamper.lines[l].raw, timing := false })
                ∧ d.relay.fault = none ∧ d.relay.reasons.remote = false ∧ d.relay.reasons.service = false
                ∧ d.relay.reasons.load = false
                ∧ d.log.records.head?
                    = some { number := 0, time := none, data := .accountLost }
                ∧ d.log.hostCursor = 0 ∧ d.log.serviceCursor = 0 ∧ d.log.mark = none)
          ∧ (s.device.power.storeIntact = true →
              d.settings = s.device.settings ∧ d.residue = s.device.residue ∧ d.codes = s.device.codes
                ∧ d.load = s.device.load ∧ d.keypad = s.device.keypad
                ∧ d.tamper = { (rearmLines mainsFunction s.device).tamper with
                    sources := d.tamper.sources, deferred := noDeferred }
                ∧ (∀ x, x ∉ deferredSources s.device.tamper.deferred →
                    sourceEntry d x = sourceEntry s.device x)
                ∧ (∀ x, x ∈ deferredSources s.device.tamper.deferred →
                    (sourceEntry d x).count = raiseCount (sourceEntry s.device x).count
                      ∧ (sourceEntry d x).latched
                        = ((sourceEntry s.device x).latched || !exempted x s.device))
                ∧ d.relay.fault = s.device.relay.fault
                ∧ d.relay.reasons.load = s.device.relay.reasons.load
                ∧ d.relay.reasons.remote = s.device.relay.reasons.remote
                ∧ d.relay.reasons.service = s.device.relay.reasons.service)

/-- Every well-formed request and frame command is read back from the bytes that encode it. -/
def Obligations.FramesDecodeToTheirCommands : Prop :=
  ∀ i : Instr, wellFormed i = true →
    (∀ bytes, hostEncode i = some bytes → hostCommand bytes = some i)
      ∧ (∀ characters, linkEncode i = some characters → linkDecode characters = some i)
      ∧ (∀ characters, serviceEncode i = some characters → serviceDecode characters = some i)

/-- Every step keeps time, tariffs, Keypad Entry, the link and the Tamper Monitor in the ranges the spec gives them.
-/
def Obligations.EveryRangeIsKept : Prop :=
  ∀ s t : State, step s = .next t →
    (ClockSound s.device → ClockSound t.device)
      ∧ (TariffsSound s.device → TariffsSound t.device)
      ∧ (KeypadSound s.device → KeypadSound t.device)
      ∧ (LinkSound s.device → LinkSound t.device)
      ∧ (TamperSound s.device → TamperSound t.device)
end

