-- ==== Sys2Proof/Laws/State.lean ====
section
/-! SUPPORT. One lemma for each group of a device under each update, and of the state under its updates. -/

namespace Sys2Proof.Machine

variable (d : Device) (s : State)

/-! ### `Device.setPower` -/

@[simp] theorem Device.setPower_power (x : Power) : (d.setPower x).power = x := rfl
@[simp] theorem Device.setPower_intake (x : Power) : (d.setPower x).intake = d.intake := rfl
@[simp] theorem Device.setPower_residue (x : Power) : (d.setPower x).residue = d.residue := rfl
@[simp] theorem Device.setPower_account (x : Power) : (d.setPower x).account = d.account := rfl
@[simp] theorem Device.setPower_settings (x : Power) : (d.setPower x).settings = d.settings := rfl
@[simp] theorem Device.setPower_clock (x : Power) : (d.setPower x).clock = d.clock := rfl
@[simp] theorem Device.setPower_tariffs (x : Power) : (d.setPower x).tariffs = d.tariffs := rfl
@[simp] theorem Device.setPower_codes (x : Power) : (d.setPower x).codes = d.codes := rfl
@[simp] theorem Device.setPower_keypad (x : Power) : (d.setPower x).keypad = d.keypad := rfl
@[simp] theorem Device.setPower_link (x : Power) : (d.setPower x).link = d.link := rfl
@[simp] theorem Device.setPower_relay (x : Power) : (d.setPower x).relay = d.relay := rfl
@[simp] theorem Device.setPower_load (x : Power) : (d.setPower x).load = d.load := rfl
@[simp] theorem Device.setPower_tamper (x : Power) : (d.setPower x).tamper = d.tamper := rfl
@[simp] theorem Device.setPower_log (x : Power) : (d.setPower x).log = d.log := rfl
@[simp] theorem Device.setPower_host (x : Power) : (d.setPower x).host = d.host := rfl
@[simp] theorem Device.setPower_service (x : Power) : (d.setPower x).service = d.service := rfl
@[simp] theorem Device.setPower_oneTime (x : Power) : (d.setPower x).oneTime = d.oneTime := rfl

/-! ### `Device.setIntake` -/

@[simp] theorem Device.setIntake_power (x : Intake) : (d.setIntake x).power = d.power := rfl
@[simp] theorem Device.setIntake_intake (x : Intake) : (d.setIntake x).intake = x := rfl
@[simp] theorem Device.setIntake_residue (x : Intake) : (d.setIntake x).residue = d.residue := rfl
@[simp] theorem Device.setIntake_account (x : Intake) : (d.setIntake x).account = d.account := rfl
@[simp] theorem Device.setIntake_settings (x : Intake) : (d.setIntake x).settings = d.settings := rfl
@[simp] theorem Device.setIntake_clock (x : Intake) : (d.setIntake x).clock = d.clock := rfl
@[simp] theorem Device.setIntake_tariffs (x : Intake) : (d.setIntake x).tariffs = d.tariffs := rfl
@[simp] theorem Device.setIntake_codes (x : Intake) : (d.setIntake x).codes = d.codes := rfl
@[simp] theorem Device.setIntake_keypad (x : Intake) : (d.setIntake x).keypad = d.keypad := rfl
@[simp] theorem Device.setIntake_link (x : Intake) : (d.setIntake x).link = d.link := rfl
@[simp] theorem Device.setIntake_relay (x : Intake) : (d.setIntake x).relay = d.relay := rfl
@[simp] theorem Device.setIntake_load (x : Intake) : (d.setIntake x).load = d.load := rfl
@[simp] theorem Device.setIntake_tamper (x : Intake) : (d.setIntake x).tamper = d.tamper := rfl
@[simp] theorem Device.setIntake_log (x : Intake) : (d.setIntake x).log = d.log := rfl
@[simp] theorem Device.setIntake_host (x : Intake) : (d.setIntake x).host = d.host := rfl
@[simp] theorem Device.setIntake_service (x : Intake) : (d.setIntake x).service = d.service := rfl
@[simp] theorem Device.setIntake_oneTime (x : Intake) : (d.setIntake x).oneTime = d.oneTime := rfl

/-! ### `Device.setResidue` -/

@[simp] theorem Device.setResidue_power (x : Nat) : (d.setResidue x).power = d.power := rfl
@[simp] theorem Device.setResidue_intake (x : Nat) : (d.setResidue x).intake = d.intake := rfl
@[simp] theorem Device.setResidue_residue (x : Nat) : (d.setResidue x).residue = x := rfl
@[simp] theorem Device.setResidue_account (x : Nat) : (d.setResidue x).account = d.account := rfl
@[simp] theorem Device.setResidue_settings (x : Nat) : (d.setResidue x).settings = d.settings := rfl
@[simp] theorem Device.setResidue_clock (x : Nat) : (d.setResidue x).clock = d.clock := rfl
@[simp] theorem Device.setResidue_tariffs (x : Nat) : (d.setResidue x).tariffs = d.tariffs := rfl
@[simp] theorem Device.setResidue_codes (x : Nat) : (d.setResidue x).codes = d.codes := rfl
@[simp] theorem Device.setResidue_keypad (x : Nat) : (d.setResidue x).keypad = d.keypad := rfl
@[simp] theorem Device.setResidue_link (x : Nat) : (d.setResidue x).link = d.link := rfl
@[simp] theorem Device.setResidue_relay (x : Nat) : (d.setResidue x).relay = d.relay := rfl
@[simp] theorem Device.setResidue_load (x : Nat) : (d.setResidue x).load = d.load := rfl
@[simp] theorem Device.setResidue_tamper (x : Nat) : (d.setResidue x).tamper = d.tamper := rfl
@[simp] theorem Device.setResidue_log (x : Nat) : (d.setResidue x).log = d.log := rfl
@[simp] theorem Device.setResidue_host (x : Nat) : (d.setResidue x).host = d.host := rfl
@[simp] theorem Device.setResidue_service (x : Nat) : (d.setResidue x).service = d.service := rfl
@[simp] theorem Device.setResidue_oneTime (x : Nat) : (d.setResidue x).oneTime = d.oneTime := rfl

/-! ### `Device.setAccount` -/

@[simp] theorem Device.setAccount_power (x : Account) : (d.setAccount x).power = d.power := rfl
@[simp] theorem Device.setAccount_intake (x : Account) : (d.setAccount x).intake = d.intake := rfl
@[simp] theorem Device.setAccount_residue (x : Account) : (d.setAccount x).residue = d.residue := rfl
@[simp] theorem Device.setAccount_account (x : Account) : (d.setAccount x).account = x := rfl
@[simp] theorem Device.setAccount_settings (x : Account) : (d.setAccount x).settings = d.settings := rfl
@[simp] theorem Device.setAccount_clock (x : Account) : (d.setAccount x).clock = d.clock := rfl
@[simp] theorem Device.setAccount_tariffs (x : Account) : (d.setAccount x).tariffs = d.tariffs := rfl
@[simp] theorem Device.setAccount_codes (x : Account) : (d.setAccount x).codes = d.codes := rfl
@[simp] theorem Device.setAccount_keypad (x : Account) : (d.setAccount x).keypad = d.keypad := rfl
@[simp] theorem Device.setAccount_link (x : Account) : (d.setAccount x).link = d.link := rfl
@[simp] theorem Device.setAccount_relay (x : Account) : (d.setAccount x).relay = d.relay := rfl
@[simp] theorem Device.setAccount_load (x : Account) : (d.setAccount x).load = d.load := rfl
@[simp] theorem Device.setAccount_tamper (x : Account) : (d.setAccount x).tamper = d.tamper := rfl
@[simp] theorem Device.setAccount_log (x : Account) : (d.setAccount x).log = d.log := rfl
@[simp] theorem Device.setAccount_host (x : Account) : (d.setAccount x).host = d.host := rfl
@[simp] theorem Device.setAccount_service (x : Account) : (d.setAccount x).service = d.service := rfl
@[simp] theorem Device.setAccount_oneTime (x : Account) : (d.setAccount x).oneTime = d.oneTime := rfl

/-! ### `Device.setSettings` -/

@[simp] theorem Device.setSettings_power (x : Settings) : (d.setSettings x).power = d.power := rfl
@[simp] theorem Device.setSettings_intake (x : Settings) : (d.setSettings x).intake = d.intake := rfl
@[simp] theorem Device.setSettings_residue (x : Settings) : (d.setSettings x).residue = d.residue := rfl
@[simp] theorem Device.setSettings_account (x : Settings) : (d.setSettings x).account = d.account := rfl
@[simp] theorem Device.setSettings_settings (x : Settings) : (d.setSettings x).settings = x := rfl
@[simp] theorem Device.setSettings_clock (x : Settings) : (d.setSettings x).clock = d.clock := rfl
@[simp] theorem Device.setSettings_tariffs (x : Settings) : (d.setSettings x).tariffs = d.tariffs := rfl
@[simp] theorem Device.setSettings_codes (x : Settings) : (d.setSettings x).codes = d.codes := rfl
@[simp] theorem Device.setSettings_keypad (x : Settings) : (d.setSettings x).keypad = d.keypad := rfl
@[simp] theorem Device.setSettings_link (x : Settings) : (d.setSettings x).link = d.link := rfl
@[simp] theorem Device.setSettings_relay (x : Settings) : (d.setSettings x).relay = d.relay := rfl
@[simp] theorem Device.setSettings_load (x : Settings) : (d.setSettings x).load = d.load := rfl
@[simp] theorem Device.setSettings_tamper (x : Settings) : (d.setSettings x).tamper = d.tamper := rfl
@[simp] theorem Device.setSettings_log (x : Settings) : (d.setSettings x).log = d.log := rfl
@[simp] theorem Device.setSettings_host (x : Settings) : (d.setSettings x).host = d.host := rfl
@[simp] theorem Device.setSettings_service (x : Settings) : (d.setSettings x).service = d.service := rfl
@[simp] theorem Device.setSettings_oneTime (x : Settings) : (d.setSettings x).oneTime = d.oneTime := rfl

/-! ### `Device.setClock` -/

@[simp] theorem Device.setClock_power (x : Clock) : (d.setClock x).power = d.power := rfl
@[simp] theorem Device.setClock_intake (x : Clock) : (d.setClock x).intake = d.intake := rfl
@[simp] theorem Device.setClock_residue (x : Clock) : (d.setClock x).residue = d.residue := rfl
@[simp] theorem Device.setClock_account (x : Clock) : (d.setClock x).account = d.account := rfl
@[simp] theorem Device.setClock_settings (x : Clock) : (d.setClock x).settings = d.settings := rfl
@[simp] theorem Device.setClock_clock (x : Clock) : (d.setClock x).clock = x := rfl
@[simp] theorem Device.setClock_tariffs (x : Clock) : (d.setClock x).tariffs = d.tariffs := rfl
@[simp] theorem Device.setClock_codes (x : Clock) : (d.setClock x).codes = d.codes := rfl
@[simp] theorem Device.setClock_keypad (x : Clock) : (d.setClock x).keypad = d.keypad := rfl
@[simp] theorem Device.setClock_link (x : Clock) : (d.setClock x).link = d.link := rfl
@[simp] theorem Device.setClock_relay (x : Clock) : (d.setClock x).relay = d.relay := rfl
@[simp] theorem Device.setClock_load (x : Clock) : (d.setClock x).load = d.load := rfl
@[simp] theorem Device.setClock_tamper (x : Clock) : (d.setClock x).tamper = d.tamper := rfl
@[simp] theorem Device.setClock_log (x : Clock) : (d.setClock x).log = d.log := rfl
@[simp] theorem Device.setClock_host (x : Clock) : (d.setClock x).host = d.host := rfl
@[simp] theorem Device.setClock_service (x : Clock) : (d.setClock x).service = d.service := rfl
@[simp] theorem Device.setClock_oneTime (x : Clock) : (d.setClock x).oneTime = d.oneTime := rfl

/-! ### `Device.setTariffs` -/

@[simp] theorem Device.setTariffs_power (x : Tariffs) : (d.setTariffs x).power = d.power := rfl
@[simp] theorem Device.setTariffs_intake (x : Tariffs) : (d.setTariffs x).intake = d.intake := rfl
@[simp] theorem Device.setTariffs_residue (x : Tariffs) : (d.setTariffs x).residue = d.residue := rfl
@[simp] theorem Device.setTariffs_account (x : Tariffs) : (d.setTariffs x).account = d.account := rfl
@[simp] theorem Device.setTariffs_settings (x : Tariffs) : (d.setTariffs x).settings = d.settings := rfl
@[simp] theorem Device.setTariffs_clock (x : Tariffs) : (d.setTariffs x).clock = d.clock := rfl
@[simp] theorem Device.setTariffs_tariffs (x : Tariffs) : (d.setTariffs x).tariffs = x := rfl
@[simp] theorem Device.setTariffs_codes (x : Tariffs) : (d.setTariffs x).codes = d.codes := rfl
@[simp] theorem Device.setTariffs_keypad (x : Tariffs) : (d.setTariffs x).keypad = d.keypad := rfl
@[simp] theorem Device.setTariffs_link (x : Tariffs) : (d.setTariffs x).link = d.link := rfl
@[simp] theorem Device.setTariffs_relay (x : Tariffs) : (d.setTariffs x).relay = d.relay := rfl
@[simp] theorem Device.setTariffs_load (x : Tariffs) : (d.setTariffs x).load = d.load := rfl
@[simp] theorem Device.setTariffs_tamper (x : Tariffs) : (d.setTariffs x).tamper = d.tamper := rfl
@[simp] theorem Device.setTariffs_log (x : Tariffs) : (d.setTariffs x).log = d.log := rfl
@[simp] theorem Device.setTariffs_host (x : Tariffs) : (d.setTariffs x).host = d.host := rfl
@[simp] theorem Device.setTariffs_service (x : Tariffs) : (d.setTariffs x).service = d.service := rfl
@[simp] theorem Device.setTariffs_oneTime (x : Tariffs) : (d.setTariffs x).oneTime = d.oneTime := rfl

/-! ### `Device.setCodes` -/

@[simp] theorem Device.setCodes_power (x : Codes) : (d.setCodes x).power = d.power := rfl
@[simp] theorem Device.setCodes_intake (x : Codes) : (d.setCodes x).intake = d.intake := rfl
@[simp] theorem Device.setCodes_residue (x : Codes) : (d.setCodes x).residue = d.residue := rfl
@[simp] theorem Device.setCodes_account (x : Codes) : (d.setCodes x).account = d.account := rfl
@[simp] theorem Device.setCodes_settings (x : Codes) : (d.setCodes x).settings = d.settings := rfl
@[simp] theorem Device.setCodes_clock (x : Codes) : (d.setCodes x).clock = d.clock := rfl
@[simp] theorem Device.setCodes_tariffs (x : Codes) : (d.setCodes x).tariffs = d.tariffs := rfl
@[simp] theorem Device.setCodes_codes (x : Codes) : (d.setCodes x).codes = x := rfl
@[simp] theorem Device.setCodes_keypad (x : Codes) : (d.setCodes x).keypad = d.keypad := rfl
@[simp] theorem Device.setCodes_link (x : Codes) : (d.setCodes x).link = d.link := rfl
@[simp] theorem Device.setCodes_relay (x : Codes) : (d.setCodes x).relay = d.relay := rfl
@[simp] theorem Device.setCodes_load (x : Codes) : (d.setCodes x).load = d.load := rfl
@[simp] theorem Device.setCodes_tamper (x : Codes) : (d.setCodes x).tamper = d.tamper := rfl
@[simp] theorem Device.setCodes_log (x : Codes) : (d.setCodes x).log = d.log := rfl
@[simp] theorem Device.setCodes_host (x : Codes) : (d.setCodes x).host = d.host := rfl
@[simp] theorem Device.setCodes_service (x : Codes) : (d.setCodes x).service = d.service := rfl
@[simp] theorem Device.setCodes_oneTime (x : Codes) : (d.setCodes x).oneTime = d.oneTime := rfl

/-! ### `Device.setKeypad` -/

@[simp] theorem Device.setKeypad_power (x : Keypad) : (d.setKeypad x).power = d.power := rfl
@[simp] theorem Device.setKeypad_intake (x : Keypad) : (d.setKeypad x).intake = d.intake := rfl
@[simp] theorem Device.setKeypad_residue (x : Keypad) : (d.setKeypad x).residue = d.residue := rfl
@[simp] theorem Device.setKeypad_account (x : Keypad) : (d.setKeypad x).account = d.account := rfl
@[simp] theorem Device.setKeypad_settings (x : Keypad) : (d.setKeypad x).settings = d.settings := rfl
@[simp] theorem Device.setKeypad_clock (x : Keypad) : (d.setKeypad x).clock = d.clock := rfl
@[simp] theorem Device.setKeypad_tariffs (x : Keypad) : (d.setKeypad x).tariffs = d.tariffs := rfl
@[simp] theorem Device.setKeypad_codes (x : Keypad) : (d.setKeypad x).codes = d.codes := rfl
@[simp] theorem Device.setKeypad_keypad (x : Keypad) : (d.setKeypad x).keypad = x := rfl
@[simp] theorem Device.setKeypad_link (x : Keypad) : (d.setKeypad x).link = d.link := rfl
@[simp] theorem Device.setKeypad_relay (x : Keypad) : (d.setKeypad x).relay = d.relay := rfl
@[simp] theorem Device.setKeypad_load (x : Keypad) : (d.setKeypad x).load = d.load := rfl
@[simp] theorem Device.setKeypad_tamper (x : Keypad) : (d.setKeypad x).tamper = d.tamper := rfl
@[simp] theorem Device.setKeypad_log (x : Keypad) : (d.setKeypad x).log = d.log := rfl
@[simp] theorem Device.setKeypad_host (x : Keypad) : (d.setKeypad x).host = d.host := rfl
@[simp] theorem Device.setKeypad_service (x : Keypad) : (d.setKeypad x).service = d.service := rfl
@[simp] theorem Device.setKeypad_oneTime (x : Keypad) : (d.setKeypad x).oneTime = d.oneTime := rfl

/-! ### `Device.setLink` -/

@[simp] theorem Device.setLink_power (x : Link) : (d.setLink x).power = d.power := rfl
@[simp] theorem Device.setLink_intake (x : Link) : (d.setLink x).intake = d.intake := rfl
@[simp] theorem Device.setLink_residue (x : Link) : (d.setLink x).residue = d.residue := rfl
@[simp] theorem Device.setLink_account (x : Link) : (d.setLink x).account = d.account := rfl
@[simp] theorem Device.setLink_settings (x : Link) : (d.setLink x).settings = d.settings := rfl
@[simp] theorem Device.setLink_clock (x : Link) : (d.setLink x).clock = d.clock := rfl
@[simp] theorem Device.setLink_tariffs (x : Link) : (d.setLink x).tariffs = d.tariffs := rfl
@[simp] theorem Device.setLink_codes (x : Link) : (d.setLink x).codes = d.codes := rfl
@[simp] theorem Device.setLink_keypad (x : Link) : (d.setLink x).keypad = d.keypad := rfl
@[simp] theorem Device.setLink_link (x : Link) : (d.setLink x).link = x := rfl
@[simp] theorem Device.setLink_relay (x : Link) : (d.setLink x).relay = d.relay := rfl
@[simp] theorem Device.setLink_load (x : Link) : (d.setLink x).load = d.load := rfl
@[simp] theorem Device.setLink_tamper (x : Link) : (d.setLink x).tamper = d.tamper := rfl
@[simp] theorem Device.setLink_log (x : Link) : (d.setLink x).log = d.log := rfl
@[simp] theorem Device.setLink_host (x : Link) : (d.setLink x).host = d.host := rfl
@[simp] theorem Device.setLink_service (x : Link) : (d.setLink x).service = d.service := rfl
@[simp] theorem Device.setLink_oneTime (x : Link) : (d.setLink x).oneTime = d.oneTime := rfl

/-! ### `Device.setRelay` -/

@[simp] theorem Device.setRelay_power (x : Relay) : (d.setRelay x).power = d.power := rfl
@[simp] theorem Device.setRelay_intake (x : Relay) : (d.setRelay x).intake = d.intake := rfl
@[simp] theorem Device.setRelay_residue (x : Relay) : (d.setRelay x).residue = d.residue := rfl
@[simp] theorem Device.setRelay_account (x : Relay) : (d.setRelay x).account = d.account := rfl
@[simp] theorem Device.setRelay_settings (x : Relay) : (d.setRelay x).settings = d.settings := rfl
@[simp] theorem Device.setRelay_clock (x : Relay) : (d.setRelay x).clock = d.clock := rfl
@[simp] theorem Device.setRelay_tariffs (x : Relay) : (d.setRelay x).tariffs = d.tariffs := rfl
@[simp] theorem Device.setRelay_codes (x : Relay) : (d.setRelay x).codes = d.codes := rfl
@[simp] theorem Device.setRelay_keypad (x : Relay) : (d.setRelay x).keypad = d.keypad := rfl
@[simp] theorem Device.setRelay_link (x : Relay) : (d.setRelay x).link = d.link := rfl
@[simp] theorem Device.setRelay_relay (x : Relay) : (d.setRelay x).relay = x := rfl
@[simp] theorem Device.setRelay_load (x : Relay) : (d.setRelay x).load = d.load := rfl
@[simp] theorem Device.setRelay_tamper (x : Relay) : (d.setRelay x).tamper = d.tamper := rfl
@[simp] theorem Device.setRelay_log (x : Relay) : (d.setRelay x).log = d.log := rfl
@[simp] theorem Device.setRelay_host (x : Relay) : (d.setRelay x).host = d.host := rfl
@[simp] theorem Device.setRelay_service (x : Relay) : (d.setRelay x).service = d.service := rfl
@[simp] theorem Device.setRelay_oneTime (x : Relay) : (d.setRelay x).oneTime = d.oneTime := rfl

/-! ### `Device.setLoad` -/

@[simp] theorem Device.setLoad_power (x : Load) : (d.setLoad x).power = d.power := rfl
@[simp] theorem Device.setLoad_intake (x : Load) : (d.setLoad x).intake = d.intake := rfl
@[simp] theorem Device.setLoad_residue (x : Load) : (d.setLoad x).residue = d.residue := rfl
@[simp] theorem Device.setLoad_account (x : Load) : (d.setLoad x).account = d.account := rfl
@[simp] theorem Device.setLoad_settings (x : Load) : (d.setLoad x).settings = d.settings := rfl
@[simp] theorem Device.setLoad_clock (x : Load) : (d.setLoad x).clock = d.clock := rfl
@[simp] theorem Device.setLoad_tariffs (x : Load) : (d.setLoad x).tariffs = d.tariffs := rfl
@[simp] theorem Device.setLoad_codes (x : Load) : (d.setLoad x).codes = d.codes := rfl
@[simp] theorem Device.setLoad_keypad (x : Load) : (d.setLoad x).keypad = d.keypad := rfl
@[simp] theorem Device.setLoad_link (x : Load) : (d.setLoad x).link = d.link := rfl
@[simp] theorem Device.setLoad_relay (x : Load) : (d.setLoad x).relay = d.relay := rfl
@[simp] theorem Device.setLoad_load (x : Load) : (d.setLoad x).load = x := rfl
@[simp] theorem Device.setLoad_tamper (x : Load) : (d.setLoad x).tamper = d.tamper := rfl
@[simp] theorem Device.setLoad_log (x : Load) : (d.setLoad x).log = d.log := rfl
@[simp] theorem Device.setLoad_host (x : Load) : (d.setLoad x).host = d.host := rfl
@[simp] theorem Device.setLoad_service (x : Load) : (d.setLoad x).service = d.service := rfl
@[simp] theorem Device.setLoad_oneTime (x : Load) : (d.setLoad x).oneTime = d.oneTime := rfl

/-! ### `Device.setTamper` -/

@[simp] theorem Device.setTamper_power (x : Tamper) : (d.setTamper x).power = d.power := rfl
@[simp] theorem Device.setTamper_intake (x : Tamper) : (d.setTamper x).intake = d.intake := rfl
@[simp] theorem Device.setTamper_residue (x : Tamper) : (d.setTamper x).residue = d.residue := rfl
@[simp] theorem Device.setTamper_account (x : Tamper) : (d.setTamper x).account = d.account := rfl
@[simp] theorem Device.setTamper_settings (x : Tamper) : (d.setTamper x).settings = d.settings := rfl
@[simp] theorem Device.setTamper_clock (x : Tamper) : (d.setTamper x).clock = d.clock := rfl
@[simp] theorem Device.setTamper_tariffs (x : Tamper) : (d.setTamper x).tariffs = d.tariffs := rfl
@[simp] theorem Device.setTamper_codes (x : Tamper) : (d.setTamper x).codes = d.codes := rfl
@[simp] theorem Device.setTamper_keypad (x : Tamper) : (d.setTamper x).keypad = d.keypad := rfl
@[simp] theorem Device.setTamper_link (x : Tamper) : (d.setTamper x).link = d.link := rfl
@[simp] theorem Device.setTamper_relay (x : Tamper) : (d.setTamper x).relay = d.relay := rfl
@[simp] theorem Device.setTamper_load (x : Tamper) : (d.setTamper x).load = d.load := rfl
@[simp] theorem Device.setTamper_tamper (x : Tamper) : (d.setTamper x).tamper = x := rfl
@[simp] theorem Device.setTamper_log (x : Tamper) : (d.setTamper x).log = d.log := rfl
@[simp] theorem Device.setTamper_host (x : Tamper) : (d.setTamper x).host = d.host := rfl
@[simp] theorem Device.setTamper_service (x : Tamper) : (d.setTamper x).service = d.service := rfl
@[simp] theorem Device.setTamper_oneTime (x : Tamper) : (d.setTamper x).oneTime = d.oneTime := rfl

/-! ### `Device.setLog` -/

@[simp] theorem Device.setLog_power (x : Log) : (d.setLog x).power = d.power := rfl
@[simp] theorem Device.setLog_intake (x : Log) : (d.setLog x).intake = d.intake := rfl
@[simp] theorem Device.setLog_residue (x : Log) : (d.setLog x).residue = d.residue := rfl
@[simp] theorem Device.setLog_account (x : Log) : (d.setLog x).account = d.account := rfl
@[simp] theorem Device.setLog_settings (x : Log) : (d.setLog x).settings = d.settings := rfl
@[simp] theorem Device.setLog_clock (x : Log) : (d.setLog x).clock = d.clock := rfl
@[simp] theorem Device.setLog_tariffs (x : Log) : (d.setLog x).tariffs = d.tariffs := rfl
@[simp] theorem Device.setLog_codes (x : Log) : (d.setLog x).codes = d.codes := rfl
@[simp] theorem Device.setLog_keypad (x : Log) : (d.setLog x).keypad = d.keypad := rfl
@[simp] theorem Device.setLog_link (x : Log) : (d.setLog x).link = d.link := rfl
@[simp] theorem Device.setLog_relay (x : Log) : (d.setLog x).relay = d.relay := rfl
@[simp] theorem Device.setLog_load (x : Log) : (d.setLog x).load = d.load := rfl
@[simp] theorem Device.setLog_tamper (x : Log) : (d.setLog x).tamper = d.tamper := rfl
@[simp] theorem Device.setLog_log (x : Log) : (d.setLog x).log = x := rfl
@[simp] theorem Device.setLog_host (x : Log) : (d.setLog x).host = d.host := rfl
@[simp] theorem Device.setLog_service (x : Log) : (d.setLog x).service = d.service := rfl
@[simp] theorem Device.setLog_oneTime (x : Log) : (d.setLog x).oneTime = d.oneTime := rfl

/-! ### `Device.setHost` -/

@[simp] theorem Device.setHost_power (x : HostPort) : (d.setHost x).power = d.power := rfl
@[simp] theorem Device.setHost_intake (x : HostPort) : (d.setHost x).intake = d.intake := rfl
@[simp] theorem Device.setHost_residue (x : HostPort) : (d.setHost x).residue = d.residue := rfl
@[simp] theorem Device.setHost_account (x : HostPort) : (d.setHost x).account = d.account := rfl
@[simp] theorem Device.setHost_settings (x : HostPort) : (d.setHost x).settings = d.settings := rfl
@[simp] theorem Device.setHost_clock (x : HostPort) : (d.setHost x).clock = d.clock := rfl
@[simp] theorem Device.setHost_tariffs (x : HostPort) : (d.setHost x).tariffs = d.tariffs := rfl
@[simp] theorem Device.setHost_codes (x : HostPort) : (d.setHost x).codes = d.codes := rfl
@[simp] theorem Device.setHost_keypad (x : HostPort) : (d.setHost x).keypad = d.keypad := rfl
@[simp] theorem Device.setHost_link (x : HostPort) : (d.setHost x).link = d.link := rfl
@[simp] theorem Device.setHost_relay (x : HostPort) : (d.setHost x).relay = d.relay := rfl
@[simp] theorem Device.setHost_load (x : HostPort) : (d.setHost x).load = d.load := rfl
@[simp] theorem Device.setHost_tamper (x : HostPort) : (d.setHost x).tamper = d.tamper := rfl
@[simp] theorem Device.setHost_log (x : HostPort) : (d.setHost x).log = d.log := rfl
@[simp] theorem Device.setHost_host (x : HostPort) : (d.setHost x).host = x := rfl
@[simp] theorem Device.setHost_service (x : HostPort) : (d.setHost x).service = d.service := rfl
@[simp] theorem Device.setHost_oneTime (x : HostPort) : (d.setHost x).oneTime = d.oneTime := rfl

/-! ### `Device.setService` -/

@[simp] theorem Device.setService_power (x : ServicePort) : (d.setService x).power = d.power := rfl
@[simp] theorem Device.setService_intake (x : ServicePort) : (d.setService x).intake = d.intake := rfl
@[simp] theorem Device.setService_residue (x : ServicePort) : (d.setService x).residue = d.residue := rfl
@[simp] theorem Device.setService_account (x : ServicePort) : (d.setService x).account = d.account := rfl
@[simp] theorem Device.setService_settings (x : ServicePort) : (d.setService x).settings = d.settings := rfl
@[simp] theorem Device.setService_clock (x : ServicePort) : (d.setService x).clock = d.clock := rfl
@[simp] theorem Device.setService_tariffs (x : ServicePort) : (d.setService x).tariffs = d.tariffs := rfl
@[simp] theorem Device.setService_codes (x : ServicePort) : (d.setService x).codes = d.codes := rfl
@[simp] theorem Device.setService_keypad (x : ServicePort) : (d.setService x).keypad = d.keypad := rfl
@[simp] theorem Device.setService_link (x : ServicePort) : (d.setService x).link = d.link := rfl
@[simp] theorem Device.setService_relay (x : ServicePort) : (d.setService x).relay = d.relay := rfl
@[simp] theorem Device.setService_load (x : ServicePort) : (d.setService x).load = d.load := rfl
@[simp] theorem Device.setService_tamper (x : ServicePort) : (d.setService x).tamper = d.tamper := rfl
@[simp] theorem Device.setService_log (x : ServicePort) : (d.setService x).log = d.log := rfl
@[simp] theorem Device.setService_host (x : ServicePort) : (d.setService x).host = d.host := rfl
@[simp] theorem Device.setService_service (x : ServicePort) : (d.setService x).service = x := rfl
@[simp] theorem Device.setService_oneTime (x : ServicePort) : (d.setService x).oneTime = d.oneTime := rfl

/-! ### `Device.setOneTime` -/

@[simp] theorem Device.setOneTime_power (x : Option OneTime) : (d.setOneTime x).power = d.power := rfl
@[simp] theorem Device.setOneTime_intake (x : Option OneTime) : (d.setOneTime x).intake = d.intake := rfl
@[simp] theorem Device.setOneTime_residue (x : Option OneTime) : (d.setOneTime x).residue = d.residue := rfl
@[simp] theorem Device.setOneTime_account (x : Option OneTime) : (d.setOneTime x).account = d.account := rfl
@[simp] theorem Device.setOneTime_settings (x : Option OneTime) : (d.setOneTime x).settings = d.settings := rfl
@[simp] theorem Device.setOneTime_clock (x : Option OneTime) : (d.setOneTime x).clock = d.clock := rfl
@[simp] theorem Device.setOneTime_tariffs (x : Option OneTime) : (d.setOneTime x).tariffs = d.tariffs := rfl
@[simp] theorem Device.setOneTime_codes (x : Option OneTime) : (d.setOneTime x).codes = d.codes := rfl
@[simp] theorem Device.setOneTime_keypad (x : Option OneTime) : (d.setOneTime x).keypad = d.keypad := rfl
@[simp] theorem Device.setOneTime_link (x : Option OneTime) : (d.setOneTime x).link = d.link := rfl
@[simp] theorem Device.setOneTime_relay (x : Option OneTime) : (d.setOneTime x).relay = d.relay := rfl
@[simp] theorem Device.setOneTime_load (x : Option OneTime) : (d.setOneTime x).load = d.load := rfl
@[simp] theorem Device.setOneTime_tamper (x : Option OneTime) : (d.setOneTime x).tamper = d.tamper := rfl
@[simp] theorem Device.setOneTime_log (x : Option OneTime) : (d.setOneTime x).log = d.log := rfl
@[simp] theorem Device.setOneTime_host (x : Option OneTime) : (d.setOneTime x).host = d.host := rfl
@[simp] theorem Device.setOneTime_service (x : Option OneTime) : (d.setOneTime x).service = d.service := rfl
@[simp] theorem Device.setOneTime_oneTime (x : Option OneTime) : (d.setOneTime x).oneTime = x := rfl

/-! ### The state -/

@[simp] theorem State.withPending_device (q : List Instr) : (s.withPending q).device = s.device := rfl
@[simp] theorem State.withPending_pending (q : List Instr) : (s.withPending q).pending = q := rfl
@[simp] theorem State.withPending_withPending (q r : List Instr) :
    (s.withPending q).withPending r = s.withPending r := rfl
@[simp] theorem State.withFetchWord_eq (n w : Nat) : s.withFetchWord n w = s := rfl

/-- A step takes the command at the front of the queue. -/
theorem step_cons (c : Instr) (q : List Instr) : step (s.withPending (c :: q)) = exec c (s.withPending q) := rfl

end Sys2Proof.Machine
end

