-- ==== Sys2Proof/Laws/Frames.lean ====
section
/-! SUPPORT. What each shared operation leaves unchanged: one frame lemma for each, in `keepsBut`. -/

namespace Sys2Proof.Machine

/-! ### Composing frames -/

theorem Block.same_refl (b : Block) (d : Device) : b.same d d := by cases b <;> rfl

theorem Block.same_trans {b : Block} {d e f : Device} (h : b.same d e) (k : b.same e f) : b.same d f := by
  cases b <;> simp only [Block.same] at * <;> rw [k, h]

theorem keepsBut_refl (l : List Block) (d : Device) : keepsBut l d d := fun b _ => b.same_refl d

theorem keepsBut_trans {l : List Block} {d e f : Device} (h : keepsBut l d e) (k : keepsBut l e f) :
    keepsBut l d f := fun b hb => Block.same_trans (h b hb) (k b hb)

theorem keepsBut_mono {l m : List Block} {d e : Device} (h : keepsBut l d e) (hl : l ⊆ m) : keepsBut m d e :=
  fun b hb => h b fun hm => hb (hl hm)

/-- Two frames of a composition, each within the list of the whole. -/
theorem keepsBut_comp {l m n : List Block} {d e f : Device} (h : keepsBut l d e) (k : keepsBut m e f)
    (hl : l ⊆ n := by decide) (hm : m ⊆ n := by decide) : keepsBut n d f :=
  keepsBut_trans (keepsBut_mono h hl) (keepsBut_mono k hm)

/-! ### One update -/

theorem setIntake_keeps (d : Device) (x : Intake) : keepsBut [.intake] d (d.setIntake x) := by
  intro b hb; cases b <;> simp_all [Block.same]
theorem setRelay_keeps (d : Device) (x : Relay) : keepsBut [.relay] d (d.setRelay x) := by
  intro b hb; cases b <;> simp_all [Block.same]
theorem setHost_keeps (d : Device) (x : HostPort) : keepsBut [.host] d (d.setHost x) := by
  intro b hb; cases b <;> simp_all [Block.same]
theorem setLog_keeps (d : Device) (x : Log) : keepsBut [.log] d (d.setLog x) := by
  intro b hb; cases b <;> simp_all [Block.same]
theorem setTamper_keeps (d : Device) (x : Tamper) : keepsBut [.tamper] d (d.setTamper x) := by
  intro b hb; cases b <;> simp_all [Block.same]
theorem setAccount_keeps (d : Device) (x : Account) : keepsBut [.account] d (d.setAccount x) := by
  intro b hb; cases b <;> simp_all [Block.same]
theorem setCodes_keeps (d : Device) (x : Codes) : keepsBut [.codes] d (d.setCodes x) := by
  intro b hb; cases b <;> simp_all [Block.same]
theorem setKeypad_keeps (d : Device) (x : Keypad) : keepsBut [.keypad] d (d.setKeypad x) := by
  intro b hb; cases b <;> simp_all [Block.same]
theorem setLoad_keeps (d : Device) (x : Load) : keepsBut [.load] d (d.setLoad x) := by
  intro b hb; cases b <;> simp_all [Block.same]
theorem setClock_keeps (d : Device) (x : Clock) : keepsBut [.clock] d (d.setClock x) := by
  intro b hb; cases b <;> simp_all [Block.same]
theorem setTariffs_keeps (d : Device) (x : Tariffs) : keepsBut [.tariffs] d (d.setTariffs x) := by
  intro b hb; cases b <;> simp_all [Block.same]
theorem setService_keeps (d : Device) (x : ServicePort) : keepsBut [.service] d (d.setService x) := by
  intro b hb; cases b <;> simp_all [Block.same]
theorem setResidue_keeps (d : Device) (x : Nat) : keepsBut [.residue] d (d.setResidue x) := by
  intro b hb; cases b <;> simp_all [Block.same]

/-! ### Notices, records and the display -/

theorem raiseNotice_keeps (n : Notice) (d : Device) : keepsBut [.host] d (raiseNotice n d) := setHost_keeps _ _

theorem addRecord_keeps (x : LogData) (d : Device) : keepsBut [.log, .host] d (addRecord x d) := by
  unfold addRecord
  split
  · exact keepsBut_refl _ _
  · exact keepsBut_comp (setLog_keeps d _) (raiseNotice_keeps _ _)

/-- The display's note changes nothing that a frame looks at. -/
theorem noteDisplay_keeps (old new : Device) : keepsBut [] new (noteDisplay old new) := by
  unfold noteDisplay
  split
  · intro b _; cases b <;> rfl
  · exact keepsBut_refl _ _

/-- The note of one part of a tick changes nothing that a frame looks at. -/
theorem notedPart_keeps (before d : Device) (p : TickPart) :
    keepsBut [] (tickPart before p d) (notedPart before d p) := noteDisplay_keeps _ _

/-! ### The relay -/

theorem startAttempt_keeps (p : Position) (second : Bool) (d : Device) :
    keepsBut [.relay] d (startAttempt p second d) := setRelay_keeps _ _

theorem zeroOpenEnergy_keeps (d : Device) : keepsBut [.intake] d (zeroOpenEnergy d) := setIntake_keeps _ _

theorem enterRelay_keeps (st : RelayState) (d : Device) :
    keepsBut [.relay, .intake, .log, .host] d (enterRelay st d) := by
  unfold enterRelay
  split
  · exact keepsBut_comp
      (keepsBut_comp (n := [.relay, .intake, .log, .host])
        (keepsBut_comp (n := [.relay, .intake]) (setRelay_keeps d _) (zeroOpenEnergy_keeps _)) (addRecord_keeps _ _))
      (raiseNotice_keeps _ _)
  · exact keepsBut_comp
      (keepsBut_comp (n := [.relay, .log, .host]) (setRelay_keeps d _) (addRecord_keeps _ _)) (raiseNotice_keeps _ _)

theorem enterRelay_keeps_intake {st : RelayState} (h : st ≠ .closed) (d : Device) :
    keepsBut [.relay, .log, .host] d (enterRelay st d) := by
  simp only [enterRelay, if_neg h]
  exact keepsBut_comp
    (keepsBut_comp (n := [.relay, .log, .host]) (setRelay_keeps d _) (addRecord_keeps _ _)) (raiseNotice_keeps _ _)

theorem reactToReasons_keeps (d : Device) : keepsBut [.relay, .log, .host] d (reactToReasons d) := by
  unfold reactToReasons
  split
  · split
    · split
      · exact keepsBut_refl _ _
      · exact keepsBut_mono (startAttempt_keeps _ _ _) (by decide)
    · split
      · exact enterRelay_keeps_intake (by decide) d
      · exact keepsBut_refl _ _
    · split
      · exact keepsBut_refl _ _
      · exact enterRelay_keeps_intake (by decide) d
    · exact keepsBut_refl _ _
  · exact keepsBut_refl _ _

theorem setReasons_keeps (r : Reasons) (d : Device) : keepsBut [.relay, .log, .host] d (setReasons r d) := by
  unfold setReasons
  split
  · exact keepsBut_refl _ _
  · exact keepsBut_comp (setRelay_keeps d _) (reactToReasons_keeps _)

theorem setReason_keeps (w : Reason) (p : Bool) (d : Device) : keepsBut [.relay, .log, .host] d (setReason w p d) :=
  setReasons_keeps _ _

theorem settle_keeps (p : Position) (d : Device) : keepsBut [.relay, .intake, .log, .host] d (settle p d) :=
  keepsBut_comp (keepsBut_comp (n := [.relay, .intake, .log, .host]) (setRelay_keeps d _) (enterRelay_keeps _ _))
    (reactToReasons_keeps _)

theorem recordFault_keeps (c : FaultCause) (p : Position) (d : Device) :
    keepsBut [.relay, .log, .host] d (recordFault c p d) :=
  keepsBut_comp (setRelay_keeps d _) (addRecord_keeps _ _)

theorem goStuck_keeps (c : FaultCause) (p : Position) (d : Device) :
    keepsBut [.relay, .log, .host] d (goStuck c p d) :=
  keepsBut_comp (recordFault_keeps c p d) (enterRelay_keeps_intake (by simp) _)

theorem auxInOperation_keeps (p : Position) (a : Attempt) (d : Device) :
    keepsBut [.relay, .intake, .log, .host] d (auxInOperation p a d) := by
  unfold auxInOperation
  repeat' split
  all_goals first
    | exact keepsBut_refl _ _
    | exact settle_keeps _ _
    | exact keepsBut_mono (setRelay_keeps _ _) (by decide)

theorem auxChanged_keeps (before : Option Position) (d : Device) :
    keepsBut [.relay, .intake, .log, .host] d (auxChanged before d) := by
  unfold auxChanged
  repeat' split
  all_goals first
    | exact keepsBut_refl _ _
    | exact settle_keeps _ _
    | exact auxInOperation_keeps _ _ _

theorem reconnectPress_keeps (d : Device) : keepsBut [.relay] d (reconnectPress d) := by
  unfold reconnectPress
  split
  · exact startAttempt_keeps _ _ _
  · exact keepsBut_refl _ _

theorem resolveRelay_keeps (d : Device) : keepsBut [.relay, .intake, .log, .host] d (resolveRelay d) := by
  unfold resolveRelay
  repeat' split
  all_goals first
    | exact keepsBut_refl _ _
    | exact settle_keeps _ _

theorem abandonOperation_keeps (d : Device) : keepsBut [.relay, .intake] d (abandonOperation d) := by
  have enter (x : Relay) (c : Prop) [Decidable c] :
      keepsBut [.relay, .intake] d (if c then zeroOpenEnergy (d.setRelay x) else d.setRelay x) := by
    split
    · exact keepsBut_comp (setRelay_keeps d _) (zeroOpenEnergy_keeps _)
    · exact keepsBut_mono (setRelay_keeps d _) (by decide)
  simp only [abandonOperation]
  cases d.relay.state
  all_goals first
    | exact keepsBut_refl _ _
    | exact enter _ _

/-! ### Tamper -/

theorem evaluateTamper_keeps (d : Device) : keepsBut [.relay, .log, .host] d (evaluateTamper d) := setReason_keeps _ _ _

theorem setSource_keeps (s : Source) (e : SourceEntry) (d : Device) : keepsBut [.tamper] d (setSource s e d) :=
  setTamper_keeps _ _

theorem latchSource_keeps (s : Source) (x : Option Byte) (d : Device) :
    keepsBut [.tamper, .relay, .log, .host] d (latchSource s x d) :=
  keepsBut_comp
    (keepsBut_comp (n := [.tamper, .log, .host])
      (keepsBut_comp (n := [.tamper, .log, .host]) (addRecord_keeps _ d) (setSource_keeps _ _ _))
      (raiseNotice_keeps _ _))
    (evaluateTamper_keeps _)

theorem detect_keeps (s : Source) (x : Option Byte) (d : Device) :
    keepsBut [.tamper, .relay, .log, .host] d (detect s x d) := by
  simp only [detect]
  split
  · exact keepsBut_comp (setSource_keeps _ _ d) (addRecord_keeps _ _)
  · split
    · exact keepsBut_mono (setSource_keeps _ _ _) (by decide)
    · exact latchSource_keeps _ _ _

theorem unlatchAll_keeps (l : List Source) (d : Device) : keepsBut [.tamper] d (l.foldl unlatchSource d) := by
  induction l generalizing d with
  | nil => exact keepsBut_refl _ _
  | cons s l ih => exact keepsBut_trans (setSource_keeps _ _ d) (ih _)

theorem clearTamper_keeps (p : Nat) (d : Device) : keepsBut [.tamper, .relay, .log, .host] d (clearTamper p d) := by
  simp only [clearTamper]
  split
  · exact keepsBut_refl _ _
  · exact keepsBut_comp
      (keepsBut_comp (n := [.tamper, .log, .host])
        (keepsBut_comp (n := [.tamper, .log, .host]) (unlatchAll_keeps _ d) (addRecord_keeps _ _))
        (raiseNotice_keeps _ _))
      (evaluateTamper_keeps _)

/-! ### The account -/

theorem recomputeCreditState_keeps (d : Device) :
    keepsBut [.account, .log, .host] d (recomputeCreditState d) := by
  simp only [recomputeCreditState]
  split
  · exact keepsBut_refl _ _
  · exact keepsBut_comp
      (keepsBut_comp (n := [.account, .log, .host]) (setAccount_keeps d _) (addRecord_keeps _ _))
      (raiseNotice_keeps _ _)

theorem recomputeCreditReason_keeps (d : Device) :
    keepsBut [.relay, .log, .host] d (recomputeCreditReason d) := by
  unfold recomputeCreditReason
  split
  · exact keepsBut_refl _ _
  · exact setReason_keeps _ _ _

theorem recomputeCredit_keeps (d : Device) :
    keepsBut [.account, .relay, .log, .host] d (recomputeCredit d) :=
  keepsBut_comp (recomputeCreditState_keeps d) (recomputeCreditReason_keeps _)

theorem handAccountReasons_keeps (d : Device) : keepsBut [.relay, .log, .host] d (handAccountReasons d) := by
  simp only [handAccountReasons]
  split
  · exact setReasons_keeps _ _
  · exact keepsBut_comp (setReasons_keeps _ d) (raiseNotice_keeps _ _)

theorem recordDiscard_keeps (n : Nat) (w : DebitReason) (d : Device) :
    keepsBut [.log, .host] d (recordDiscard n w d) := by
  unfold recordDiscard
  split
  · exact addRecord_keeps _ _
  · exact keepsBut_refl _ _

theorem debit_keeps (k : Nat) (w : DebitReason) (d : Device) :
    keepsBut [.account, .relay, .log, .host] d (debit k w d) := by
  unfold debit
  split
  · exact keepsBut_refl _ _
  · exact keepsBut_comp
      (keepsBut_comp (n := [.account, .log, .host]) (setAccount_keeps d _) (recordDiscard_keeps _ _ _))
      (recomputeCredit_keeps _)

theorem debits_keep (n k : Nat) (w : DebitReason) (d : Device) :
    keepsBut [.account, .relay, .log, .host] d ((debit k w)^[n] d) := by
  induction n generalizing d with
  | zero => exact keepsBut_refl _ _
  | succ n ih => exact keepsBut_trans (debit_keeps k w d) (ih _)

theorem topUp_keeps (n : Nat) (d : Device) : keepsBut [.account, .relay, .log, .host] d (topUp n d) :=
  keepsBut_comp (setAccount_keeps d _) (recomputeCredit_keeps _)

theorem emergencyTake_keeps (d : Device) : keepsBut [.account, .relay, .log, .host] d (emergencyTake d) :=
  keepsBut_comp (keepsBut_comp (n := [.account, .log, .host]) (setAccount_keeps d _) (addRecord_keeps _ _))
    (recomputeCredit_keeps _)

theorem debtSet_keeps (v p : Nat) (d : Device) : keepsBut [.account, .log, .host] d (debtSet v p d) :=
  keepsBut_comp (setAccount_keeps d _) (recordDiscard_keeps _ _ _)

/-! ### Time, tariffs, load -/

theorem dayProcessing_keeps (d : Device) :
    keepsBut [.account, .intake, .clock, .relay, .log, .host] d (dayProcessing d) := by
  unfold dayProcessing
  split
  · rename_i last _ _
    dsimp only
    split
    · exact keepsBut_refl _ _
    · have h := debits_keep (min (d.clock.now.day - last) Config.chargedDays) d.tariffs.active.standing .standing d
      split
      · exact keepsBut_comp
          (keepsBut_comp (n := [.account, .intake, .relay, .log, .host])
            (keepsBut_comp (n := [.account, .relay, .log, .host]) h (addRecord_keeps _ _)) (setIntake_keeps _ _))
          (setClock_keeps _ _)
      · exact keepsBut_comp
          (keepsBut_comp (n := [.account, .intake, .relay, .log, .host]) h (setIntake_keeps _ _)) (setClock_keeps _ _)
  · exact keepsBut_refl _ _

theorem activationTest_keeps (d : Device) : keepsBut [.tariffs, .log, .host] d (activationTest d) := by
  unfold activationTest
  split
  · split
    · exact keepsBut_comp
        (keepsBut_comp (n := [.tariffs, .log, .host]) (setTariffs_keeps d _) (addRecord_keeps _ _))
        (raiseNotice_keeps _ _)
    · exact keepsBut_refl _ _
  · exact keepsBut_refl _ _

theorem confirmTariff_keeps (d : Device) : keepsBut [.tariffs, .log, .host] d (confirmTariff d) := by
  unfold confirmTariff
  split
  · exact keepsBut_refl _ _
  · exact keepsBut_comp
      (keepsBut_comp (n := [.tariffs, .log, .host]) (setTariffs_keeps d _) (raiseNotice_keeps _ _))
      (activationTest_keeps _)

theorem zeroDemand_keeps (d : Device) : keepsBut [.load] d (zeroDemand d) := setLoad_keeps _ _

theorem loadTrip_keeps (d : Device) : keepsBut [.load, .relay, .log, .host] d (loadTrip d) :=
  keepsBut_comp
    (keepsBut_comp (n := [.load, .relay, .log, .host])
      (keepsBut_comp (n := [.load, .relay, .log, .host]) (setReason_keeps _ _ d) (addRecord_keeps _ _))
      (setLoad_keeps _ _))
    (zeroDemand_keeps _)

theorem slotStep_keeps (d : Device) : keepsBut [.load, .relay, .log, .host] d (slotStep d) := by
  simp only [slotStep]
  split
  · exact keepsBut_comp
      (keepsBut_comp (n := [.load, .relay, .log, .host]) (setLoad_keeps d _) (loadTrip_keeps _)) (setLoad_keeps _ _)
  · exact keepsBut_comp (n := [.load, .relay, .log, .host]) (setLoad_keeps d _) (setLoad_keeps _ _)

theorem writeLimit_keeps (w : Nat) (d : Device) : keepsBut [.load, .relay, .log, .host] d (writeLimit w d) := by
  unfold writeLimit
  split
  · exact keepsBut_mono (setLoad_keeps _ _) (by decide)
  · exact keepsBut_comp (setLoad_keeps d _) (setReason_keeps _ _ _)

theorem countDemand_keeps (d : Device) : keepsBut [.load] d (countDemand d) := setLoad_keeps _ _

theorem endTest_keeps (c : TestCause) (d : Device) : keepsBut [.intake, .log, .host] d (endTest c d) := by
  unfold endTest
  split
  · exact keepsBut_comp (setIntake_keeps d _) (addRecord_keeps _ _)
  · exact keepsBut_refl _ _

theorem closeWindow_keeps (d : Device) : keepsBut [.codes, .intake, .log, .host] d (closeWindow d) :=
  keepsBut_comp (setCodes_keeps d _) (endTest_keeps _ _)

theorem serviceOpen_keeps (m : Nat) (d : Device) : keepsBut [.codes, .intake, .log, .host] d (serviceOpen m d) := by
  unfold serviceOpen
  repeat' split
  all_goals first
    | exact keepsBut_mono (setCodes_keeps _ _) (by decide)
    | exact closeWindow_keeps _

theorem applySetTime_keeps (t : MeterTime) (d : Device) :
    keepsBut [.clock, .load, .account, .intake, .relay, .tariffs, .log, .host] d (applySetTime t d) := by
  simp only [applySetTime]
  have h : keepsBut [.clock, .load, .account, .intake, .relay, .tariffs, .log, .host] d
      (zeroDemand (addRecord (.timeSet (timeMark d) t) (d.setClock { d.clock with now := t, isSet := true }))) :=
    keepsBut_comp
      (keepsBut_comp (n := [.clock, .load, .account, .intake, .relay, .tariffs, .log, .host])
        (setClock_keeps d _) (addRecord_keeps _ _)) (zeroDemand_keeps _)
  split
  · exact keepsBut_comp (keepsBut_comp (n := [.clock, .load, .account, .intake, .relay, .tariffs, .log, .host])
      (keepsBut_comp (n := [.clock, .load, .account, .intake, .relay, .tariffs, .log, .host])
        h (setClock_keeps _ _)) (activationTest_keeps _)) (recomputeCreditReason_keeps _)
  · exact keepsBut_comp (keepsBut_comp (n := [.clock, .load, .account, .intake, .relay, .tariffs, .log, .host])
      (keepsBut_comp (n := [.clock, .load, .account, .intake, .relay, .tariffs, .log, .host])
        h (dayProcessing_keeps _)) (activationTest_keeps _)) (recomputeCreditReason_keeps _)

theorem rearmLines_keeps (w : LineFunction → Bool) (d : Device) : keepsBut [.tamper] d (rearmLines w d) :=
  setTamper_keeps _ _

theorem stopMainsLines_keeps (d : Device) : keepsBut [.tamper] d (stopMainsLines d) := setTamper_keeps _ _

/-! ### The bus (R162) -/

theorem stopHost_keeps (d : Device) : keepsBut [.host] d (stopHost d) := setHost_keeps _ _

theorem beginTransaction_keeps (address : Byte) (x : Direction) (d : Device) :
    keepsBut [.host] d (beginTransaction address x d) := by
  unfold beginTransaction
  split
  · exact setHost_keeps _ _
  · exact keepsBut_refl _ _

theorem writeBusByte_keeps (c : Byte) (d : Device) : keepsBut [.host] d (writeBusByte c d) := by
  unfold writeBusByte
  split
  · split
    · exact setHost_keeps _ _
    · exact keepsBut_refl _ _
  · exact keepsBut_refl _ _

theorem clockBusByte_keeps (acknowledged : Bool) (d : Device) : keepsBut [.host] d (clockBusByte acknowledged d) := by
  unfold clockBusByte
  split
  · split
    · exact setHost_keeps _ _
    · exact keepsBut_refl _ _
  · exact keepsBut_refl _ _

/-! ### Codes -/

theorem startCheck_keeps (d : Device) : keepsBut [.codes] d (startCheck d) := by
  unfold startCheck
  split
  · exact setCodes_keeps _ _
  · exact keepsBut_refl _ _

theorem enqueueCode_keeps (s : CodeSource) (g : List Digit) (d : Device) : keepsBut [.codes] d (enqueueCode s g d) :=
  keepsBut_trans (setCodes_keeps d _) (startCheck_keeps _)

theorem keypadOutcome_keeps (r : Result) (d : Device) : keepsBut [.keypad, .log, .host] d (keypadOutcome r d) := by
  simp only [keypadOutcome]
  repeat' split
  all_goals first
    | exact keepsBut_mono (setKeypad_keeps _ _) (by decide)
    | exact keepsBut_comp (setKeypad_keeps d _) (addRecord_keeps _ _)

theorem reportOutcome_keeps (c : QueuedCode) (r : Result) (f : Option (Digit × Nat)) (d : Device) :
    keepsBut [.keypad, .service, .log, .host] d (reportOutcome c r f d) := by
  simp only [reportOutcome]
  split
  · exact keepsBut_mono (keypadOutcome_keeps _ _) (by decide)
  · exact keepsBut_comp (setHost_keeps d _) (raiseNotice_keeps _ _)
  · exact keepsBut_mono (setService_keeps _ _) (by decide)

theorem listCode_keeps (f : CodeFields) (d : Device) : keepsBut [.codes] d (listCode f d) := by
  dsimp only [listCode]
  generalize insertUsed _ _ = listed
  cases listed with
  | nil => exact keepsBut_refl _ _
  | cons lowest rest => dsimp only; split <;> exact setCodes_keeps _ _

theorem abortCodes_keeps (d : Device) : keepsBut [.codes, .keypad, .service, .log, .host] d (abortCodes d) := by
  have fold : ∀ (l : List QueuedCode) (e : Device), keepsBut [.keypad, .service, .log, .host] e
      (l.foldl (fun now c => reportOutcome c .aborted none now) e) := by
    intro l
    induction l with
    | nil => exact fun e => keepsBut_refl _ _
    | cons c l ih => exact fun e => keepsBut_trans (reportOutcome_keeps _ _ _ e) (ih _)
  exact keepsBut_comp (setCodes_keeps d _) (fold _ _)

end Sys2Proof.Machine
end

