-- ==== Sys2Proof/Laws/Operations.lean ====
section
/-! SUPPORT. What each shared operation does: its result, said once, for proofs to cite in place of unfolding it. -/

namespace Sys2Proof.Machine

/-! ### Characters on a line -/

/-- Whether the ones are odd in number, bit by bit. -/
theorem oddOnes_cons (b : Bool) (bits : List Bool) : oddOnes (b :: bits) = xor b (oddOnes bits) := by
  have h : ∀ (l : List Bool) (x y : Bool), l.foldl xor (xor x y) = xor x (l.foldl xor y) := by
    intro l
    induction l with
    | nil => intro x y; rfl
    | cons c l ih => intro x y; simp [ih]
  simpa [oddOnes] using h bits b false

/-- The bits have an odd number of ones exactly when the count says so. -/
theorem oddOnes_eq_true (bits : List Bool) : oddOnes bits = true ↔ bits.count true % 2 = 1 := by
  induction bits with
  | nil => simp [oddOnes]
  | cons b bits ih => cases b <;> cases h : oddOnes bits <;> simp_all [oddOnes_cons] <;> omega

/-! ### Whole events -/

/-- A whole event answers next, with the queue as it was. -/
theorem takeEvent_eq (s : State) (f : Device → Device) :
    takeEvent s f = .next { s with device := noteDisplay s.device (f s.device) } := rfl

/-- The display's note touches `statusDue` alone. -/
theorem noteDisplay_eq (old new : Device) :
    noteDisplay old new
      = new.setLink
          { new.link with
            statusDue := new.link.statusDue
              || (running old && running new && displayed old != displayed new) } := by
  unfold noteDisplay
  cases h : (running old && running new && displayed old != displayed new)
  · simp only [Bool.false_eq_true, if_false, Bool.or_false]; rfl
  · simp only [if_true, Bool.or_true]

@[simp] theorem noteDisplay_power (old new : Device) : (noteDisplay old new).power = new.power := by
  rw [noteDisplay_eq]; rfl
@[simp] theorem noteDisplay_intake (old new : Device) : (noteDisplay old new).intake = new.intake := by
  rw [noteDisplay_eq]; rfl
@[simp] theorem noteDisplay_residue (old new : Device) : (noteDisplay old new).residue = new.residue := by
  rw [noteDisplay_eq]; rfl
@[simp] theorem noteDisplay_account (old new : Device) : (noteDisplay old new).account = new.account := by
  rw [noteDisplay_eq]; rfl
@[simp] theorem noteDisplay_settings (old new : Device) : (noteDisplay old new).settings = new.settings := by
  rw [noteDisplay_eq]; rfl
@[simp] theorem noteDisplay_clock (old new : Device) : (noteDisplay old new).clock = new.clock := by
  rw [noteDisplay_eq]; rfl
@[simp] theorem noteDisplay_tariffs (old new : Device) : (noteDisplay old new).tariffs = new.tariffs := by
  rw [noteDisplay_eq]; rfl
@[simp] theorem noteDisplay_codes (old new : Device) : (noteDisplay old new).codes = new.codes := by
  rw [noteDisplay_eq]; rfl
@[simp] theorem noteDisplay_keypad (old new : Device) : (noteDisplay old new).keypad = new.keypad := by
  rw [noteDisplay_eq]; rfl
@[simp] theorem noteDisplay_relay (old new : Device) : (noteDisplay old new).relay = new.relay := by
  rw [noteDisplay_eq]; rfl
@[simp] theorem noteDisplay_load (old new : Device) : (noteDisplay old new).load = new.load := by
  rw [noteDisplay_eq]; rfl
@[simp] theorem noteDisplay_tamper (old new : Device) : (noteDisplay old new).tamper = new.tamper := by
  rw [noteDisplay_eq]; rfl
@[simp] theorem noteDisplay_log (old new : Device) : (noteDisplay old new).log = new.log := by
  rw [noteDisplay_eq]; rfl
@[simp] theorem noteDisplay_host (old new : Device) : (noteDisplay old new).host = new.host := by
  rw [noteDisplay_eq]; rfl
@[simp] theorem noteDisplay_service (old new : Device) : (noteDisplay old new).service = new.service := by
  rw [noteDisplay_eq]; rfl
@[simp] theorem noteDisplay_oneTime (old new : Device) : (noteDisplay old new).oneTime = new.oneTime := by
  rw [noteDisplay_eq]; rfl

/-! ### Notices and records -/

@[simp] theorem raiseNotice_notices (n : Notice) (d : Device) :
    (raiseNotice n d).host.notices = d.host.notices ||| noticeSet n := rfl

/-- A notice raised is pending (R172). -/
theorem hasNotice_raise (n : Notice) (d : Device) : hasNotice (raiseNotice n d).host.notices n = true := by
  cases n <;> simp [hasNotice, noticeSet, noticeBit, raiseNotice]

/-- A record taken: its place, its number, its time (R154, R155). -/
theorem addRecord_log {d : Device} (h : d.log.next < Config.numberEnd) (x : LogData) :
    (addRecord x d).log
      = { d.log with
          records := makeRoom d.tamper.sources d.log.records
            ++ [{ number := d.log.next, time := timeMark d, data := x }],
          next := d.log.next + 1 } := by
  rw [addRecord, if_neg (Nat.not_le.mpr h)]; rfl

/-- A record discarded: the numbering is exhausted (R152). -/
theorem addRecord_exhausted {d : Device} (h : Config.numberEnd ≤ d.log.next) (x : LogData) : addRecord x d = d :=
  if_pos h

/-- Making room only removes (R155). -/
theorem makeRoom_sublist (v : Vector SourceEntry 8) (l : List LogRecord) : (makeRoom v l).Sublist l := by
  unfold makeRoom
  split
  · exact List.Sublist.refl _
  · exact List.eraseP_sublist

/-- A protected record stays (R155, R156). -/
theorem makeRoom_keeps_protected {v : Vector SourceEntry 8} {l : List LogRecord} {r : LogRecord} (hr : r ∈ l)
    (hp : protectedRecord v r = true) : r ∈ makeRoom v l := by
  unfold makeRoom
  split
  · exact hr
  · exact (List.mem_eraseP_of_neg (by simp [hp])).mpr hr

/-! ### The open-reason set -/

@[simp] theorem enterRelay_reasons (st : RelayState) (d : Device) :
    (enterRelay st d).relay.reasons = d.relay.reasons := by
  have h : ∀ (x : LogData) (e : Device), (addRecord x e).relay = e.relay := fun x e =>
    addRecord_keeps x e .relay (by decide)
  simp only [enterRelay]
  split <;> simp [raiseNotice, h, zeroOpenEnergy]

@[simp] theorem enterRelay_state (st : RelayState) (d : Device) : (enterRelay st d).relay.state = st := by
  have h : ∀ (x : LogData) (e : Device), (addRecord x e).relay = e.relay := fun x e =>
    addRecord_keeps x e .relay (by decide)
  simp only [enterRelay]
  split <;> simp [raiseNotice, h, zeroOpenEnergy]

@[simp] theorem startAttempt_reasons (p : Position) (b : Bool) (d : Device) :
    (startAttempt p b d).relay.reasons = d.relay.reasons := rfl

@[simp] theorem reactToReasons_reasons (d : Device) : (reactToReasons d).relay.reasons = d.relay.reasons := by
  unfold reactToReasons
  repeat' split
  all_goals simp

/-- The set takes what is handed on, whatever the relay does (R111). -/
@[simp] theorem setReasons_reasons (r : Reasons) (d : Device) : (setReasons r d).relay.reasons = r := by
  unfold setReasons
  split
  · exact (‹r = _›).symm
  · simp

@[simp] theorem setReason_reasons (w : Reason) (p : Bool) (d : Device) :
    (setReason w p d).relay.reasons = d.relay.reasons.put w p := setReasons_reasons _ _

theorem Reasons.put_has (r : Reasons) (w : Reason) (p : Bool) : (r.put w p).has w = p := by cases w <;> rfl

theorem Reasons.put_has_ne (r : Reasons) {w v : Reason} (p : Bool) (h : v ≠ w) : (r.put w p).has v = r.has v := by
  cases w <;> cases v <;> first | rfl | exact absurd rfl h

/-- Off mains, and while no relay state is held, no transition is taken (R118, R126). -/
theorem reactToReasons_off {d : Device} (h : running d = false) : reactToReasons d = d := by
  simp [reactToReasons, h]

/-! ### Tamper -/

/-- A detection raises the count of its source, saturating (R146). -/
theorem raiseCount_le (n : Nat) (h : n ≤ 255) : raiseCount n ≤ 255 := by unfold raiseCount; split <;> omega

@[simp] theorem sourceEntry_setSource (s : Source) (e : SourceEntry) (d : Device) :
    sourceEntry (setSource s e d) s = e := by simp [sourceEntry, setSource]

theorem sourceEntry_setSource_ne {s t : Source} (h : t ≠ s) (e : SourceEntry) (d : Device) :
    sourceEntry (setSource s e d) t = sourceEntry d t := by
  cases s <;> cases t <;> simp_all [sourceEntry, setSource, sourceNumber]

/-! ### The account -/

@[simp] theorem recomputeCreditReason_account (d : Device) : (recomputeCreditReason d).account = d.account :=
  recomputeCreditReason_keeps d .account (by decide)

/-- The credit state is the balance's after a recomputation; no amount moves (R28). -/
@[simp] theorem recomputeCreditState_account (d : Device) :
    (recomputeCreditState d).account
      = { d.account with creditState := creditStateOf d.account.balance d.settings.lowLevel } := by
  simp only [recomputeCreditState]
  split
  · rename_i h
    rw [h]
  · exact addRecord_keeps _ _ .account (by decide)

@[simp] theorem recomputeCredit_account (d : Device) :
    (recomputeCredit d).account
      = { d.account with creditState := creditStateOf d.account.balance d.settings.lowLevel } := by
  simp [recomputeCredit]

/-- A debit's account: lifetime, balance and debt by the rule, and the credit state of the new balance (R26). -/
theorem debit_account {k : Nat} (h : k ≠ 0) (w : DebitReason) (d : Device) :
    (debit k w d).account
      = { debitedAccount k d.account with
          creditState := creditStateOf (debitedAccount k d.account).balance d.settings.lowLevel } := by
  have hr : ∀ n (e : Device), (recordDiscard n w e).account = e.account := fun n e =>
    recordDiscard_keeps n w e .account (by decide)
  have hs : ∀ n (e : Device), (recordDiscard n w e).settings = e.settings := fun n e =>
    recordDiscard_keeps n w e .settings (by decide)
  simp [debit, h, hr, hs]

/-- A debit of nothing changes nothing (R26). -/
@[simp] theorem debit_zero (w : DebitReason) (d : Device) : debit 0 w d = d := if_pos rfl

/-- A top-up's account (R31). -/
theorem topUp_account (n : Nat) (d : Device) :
    (topUp n d).account
      = { toppedUpAccount n d.account with
          creditState := creditStateOf (toppedUpAccount n d.account).balance d.settings.lowLevel } := by
  simp [topUp]

/-- A top-up repays and recovers no more than its amount (R31). -/
theorem topUp_split (n : Nat) {a : Account} (h : a.recoveryPercent ≤ 100) :
    topUpRepaid n a + topUpRecovered n a ≤ n := by
  have h1 : topUpRepaid n a ≤ n := Nat.min_le_left _ _
  have h2 : topUpRecovered n a ≤ n - topUpRepaid n a :=
    le_trans (Nat.min_le_left _ _) (Nat.div_le_of_le_mul (by nlinarith))
  omega

/-- A meter test ended is over (R18). -/
@[simp] theorem endTest_over (c : TestCause) (d : Device) : (endTest c d).intake.testActive = false := by
  unfold endTest
  split
  · have h : ∀ (x : LogData) (e : Device), (addRecord x e).intake = e.intake := fun x e =>
      addRecord_keeps x e .intake (by decide)
    rw [h]; rfl
  · simp_all

/-! ### Bus transactions (R162) -/

@[simp] theorem setTransaction_transaction (x : Transaction) (d : Device) :
    (setTransaction x d).host.transaction = x := rfl
@[simp] theorem setTransaction_running (x : Transaction) (d : Device) :
    running (setTransaction x d) = running d := rfl
@[simp] theorem setTransaction_setTransaction (x y : Transaction) (d : Device) :
    setTransaction y (setTransaction x d) = setTransaction y d := rfl

/-- Taking the framing it has changes nothing. -/
theorem setTransaction_self (d : Device) : setTransaction d.host.transaction d = d := rfl

/-- A byte written in a write transaction joins those taken. -/
theorem writeBusByte_writing (c : Byte) {d : Device} {taken : List Byte} (h : running d = true) :
    writeBusByte c (setTransaction (.writing taken) d) = setTransaction (.writing (taken ++ [c])) d := by
  simp [writeBusByte, h]

/-- A byte acknowledged in a read transaction moves it on by one. -/
theorem clockBusByte_reading {d : Device} {b : ResponseBuffer} {k : Nat} (h : running d = true) :
    clockBusByte true (setTransaction (.reading b k) d) = setTransaction (.reading b (k + 1)) d := by
  simp [clockBusByte, h]

/-! ### The order of the parts of an event -/

/-- An order chosen by a command takes every part once. -/
theorem takeFirst_perm {α : Type} [DecidableEq α] (first all : List α) : (takeFirst first all).Perm all := by
  induction first generalizing all with
  | nil => exact List.Perm.refl _
  | cons a first ih =>
    unfold takeFirst
    split
    · exact ((ih _).cons a).trans (List.perm_cons_erase ‹_›).symm
    · exact ih _

end Sys2Proof.Machine
end

