-- ==== Sys2Proof/Tests/Slice0.lean ====
section
/-! SUPPORT. The model's own tests. Expected results come from the worked figures and the tables of spec/, named at each
test. The witnesses show, for each statement with hypotheses, states and operands that meet them. -/

namespace Sys2Proof.Tests

open Sys2Proof Sys2Proof.Machine

/-! ### Helpers -/

/-- The binding key of section 4.1.3. -/
def key : List Digit := [7, 2, 0, 5, 1, 8, 6, 3, 4, 4, 9, 7, 0, 3, 1, 2, 5, 5, 8, 6, 9, 0, 4, 1]

/-- The entered digits of the worked code (section 4.1.3). -/
def typed : List Digit := [7, 2, 0, 5, 2, 0, 9, 3, 8, 9, 9, 7, 0, 3, 1, 2, 5, 7, 8, 6, 9, 0, 0, 7]

/-- The same digits as request parameters. -/
def typedBytes : List Byte := digitBytes typed

/-- A source entry that is not latched. -/
def quiet (a : SourceAction) : SourceEntry :=
  { action := a, latched := false, count := 0, firstTime := none, record := none }

/-- A part in service on mains at day 12,345, second 43,200, in credit, CLOSED, nothing latched, window OPEN. -/
def part : Device :=
  { resetDevice with
    power := { part := .inService, supply := .mains, resetAsserted := false, initTiming := false, storeIntact := true }
    account := { resetDevice.account with balance := 50000, creditState := .inCredit }
    clock := { now := { day := 12345, second := 43200 }, isSet := true, lastCharged := some 12345 }
    codes := { resetDevice.codes with floor := 0, windowMinutes := 30 }
    relay := { resetDevice.relay with state := .closed, lastConfirmed := .closed }
    tamper := { resetDevice.tamper with sources := Vector.replicate 8 (quiet .log) }
    oneTime := some { serial := key.take 12, key := key } }

/-- A device with nothing waiting. -/
def at_ (d : Device) : State := { device := d, pending := [] }

/-- The device after a command. -/
def after (c : Instr) (d : Device) : Device :=
  match exec c (at_ d) with
  | .next t => t.device
  | _ => d

/-- The part with another part state, power state or relay. -/
def withPart (p : PartState) (d : Device) : Device := d.setPower { d.power with part := p }

def withSupply (x : Supply) (d : Device) : Device := d.setPower { d.power with supply := x }

def withRelay (st : RelayState) (r : Reasons) (d : Device) : Device :=
  d.setRelay { d.relay with state := st, reasons := r }

def remoteOnly : Reasons := { noReasons with remote := true }

/-- The part with a meter time. -/
def withTime (day second : Nat) (d : Device) : Device :=
  d.setClock { d.clock with now := { day := day, second := second } }

/-- The part with a code in check. -/
def inCheck (c : List Digit) (d : Device) : Device :=
  d.setCodes { d.codes with inCheck := some { source := .meterHost, digits := c, ticket := 17 } }

/-! ### WellFormed refuses (R163, R191) -/

theorem test_wf_host_parameters :
    wellFormed (.getStatus (List.replicate 49 0)) = false ∧ wellFormed (.getStatus (List.replicate 48 0)) = true := by
  decide

theorem test_wf_service_parameters :
    wellFormed (.readStatus (List.replicate 65 0)) = false ∧ wellFormed (.readStatus (List.replicate 64 0)) = true := by
  decide

theorem test_wf_link_payload : wellFormed (.linkOtherFrame 0x12 (List.replicate 65 0)) = false := by decide

theorem test_wf_link_own_row :
    wellFormed (.linkOtherFrame 0x10 [0x0E]) = false ∧ wellFormed (.linkOtherFrame 0x11 [0x01, 0x07]) = false
      ∧ wellFormed (.linkOtherFrame 0x10 [0x0F]) = true := by decide

theorem test_wf_service_unknown :
    wellFormed (.serviceUnknownRequest 0x40 []) = false ∧ wellFormed (.serviceUnknownRequest 0x5A []) = false
      ∧ wellFormed (.serviceUnknownRequest 0x5B []) = true := by decide

theorem test_wf_service_unknown_payload :
    wellFormed (.serviceUnknownRequest 0x5B (List.replicate 65 0)) = false := by decide

theorem test_wf_host_unknown :
    wellFormed (.hostUnknownRequest 0x16) = false ∧ wellFormed (.hostUnknownRequest 0x17) = true
      ∧ wellFormed (.hostUnknownRequest 0x00) = true := by decide

/-! ### Frames written out (sections 5.2, 11.2, 11.3) -/

/-- Section 11.3.1: the SUBMIT_CODE frame of the worked code, check 0x72. -/
theorem test_frame_submit :
    hostCommand ([0x09, 0x18] ++ typedBytes ++ [0x72]) = some (.hostSubmitCode typedBytes) := by decide

/-- Section 11.3.1: GET_NOTICES is the three bytes 0x14, 0x00, 0xEC. -/
theorem test_frame_notices : hostCommand [0x14, 0x00, 0xEC] = some (.getNotices []) := by decide

/-- R163: a wrong check, a wrong length and a code that names nothing. -/
theorem test_frame_bad :
    hostCommand [0x14, 0x00, 0xED] = some .hostBadFrame ∧ hostCommand [0x14, 0x01, 0xEB] = some .hostBadFrame
      ∧ hostCommand [0x17, 0x00, 0xE9] = some (.hostUnknownRequest 0x17) ∧ hostCommand [] = none := by decide

/-- Section 11.3.1: the QUEUED response with ticket 17 reads 0xA5, 0x01, 0x01, 0x11, 0x48, then 0xFF. -/
theorem test_response_bytes :
    (List.range 6).map (hostReadByte (.ready { result := .queued, data := [0x11] }))
      = [0xA5, 0x01, 0x01, 0x11, 0x48, 0xFF] := by decide

/-- The part after GET_NOTICES written on the bus and a repeated start for a read. -/
def readingNotices : Device :=
  match repeatedStart 0x24 .read
      (at_ ([0x14, 0x00, 0xEC].foldl (fun d c => writeBusByte c d) (beginTransaction 0x24 .write part))) with
  | .next t => t.device
  | _ => part

/-- Section 11.3.1 over the bus: the read's bytes are IN_PROGRESS and 0xFF (Table 9-1A), also when the response
completes under way; a byte left unacknowledged ends it. -/
theorem test_bus_transaction :
    let later := after .responseCompletion (clockBusByte true readingNotices)
    suppliedByte readingNotices = some 0x5B ∧ suppliedByte later = some 0xFF
      ∧ later.host.response = .ready (accepted [0x00, 0x00])
      ∧ suppliedByte (clockBusByte false later) = none := by decide

/-- R162: a write cut short by a mains loss is no request arrival. -/
theorem test_write_cut_short :
    let d := after .mainsLoss (writeBusByte 0x14 (beginTransaction 0x24 .write part))
    d.host.transaction = .idle ∧ arrivalAtEnd d = none ∧ acknowledgesByte d = false := by decide

/-- R96, R190: READ_LINK carries the parity, framing and bad-frame-check counts, then the rate. -/
theorem test_read_link :
    (linkData (part.setLink { part.link with parityErrors := 3, framingErrors := 4, badFrames := 5 })).take 5
      = [0x03, 0x04, 0x05, 0x09, 0x60] := by decide

/-- R191: KEY frames of digit 3 and ENTER, and a PRESENCE frame of an open case and version 7. -/
theorem test_frame_link :
    linkDecode [0x7E, 0x10, 0x01, 0x03, 0xEC] = some (.digitKey 3)
      ∧ linkDecode [0x7E, 0x10, 0x01, 0x0B, 0xE4] = some .enterKey
      ∧ linkDecode [0x7E, 0x11, 0x02, 0x01, 0x07, 0xE5] = some (.presenceFrame true 7)
      ∧ linkDecode [0x7E, 0x10, 0x01, 0x03, 0xED] = none := by decide

/-- R191: READ_STATUS of page 1, RETRY_RELAY, and a kind that names no request. -/
theorem test_frame_service :
    serviceDecode [0x7E, 0x40, 0x01, 0x01, 0xBE] = some (.readStatus [0x01])
      ∧ serviceDecode [0x7E, 0x55, 0x00, 0xAB] = some (.retryRelay [])
      ∧ serviceDecode [0x7E, 0x5B, 0x00, 0xA5] = some (.serviceUnknownRequest 0x5B []) := by decide

/-! ### Worked figures -/

/-- Table 4-3: the worked code unmasks to its fields, and its check digits 66 are right. -/
theorem test_worked_code :
    unmask typed key = [0, 0, 0, 0, 1, 2, 3, 0, 4, 5, 0, 0, 0, 0, 0, 0, 0, 2, 0, 0, 0, 0, 6, 6]
      ∧ fieldsOf (unmask typed key) = { codeClass := 0, issue := 123, issueDay := 45, parameter := 0, value := 20000 }
      ∧ checkRight (unmask typed key) = true := by decide

/-- The pending tariff of section 3.5.2. -/
def worked : Tariff :=
  { prices := #v[2500, 1234, 3100, 900], standing := 400,
    workList := [⟨360, 0⟩, ⟨1020, 2⟩, ⟨1260, 1⟩, ⟨1380, 3⟩], restList := [⟨480, 1⟩, ⟨1320, 3⟩],
    restMask := 96, activationDay := 12346, activationMinute := 0 }

/-- Table 3-5: the worked digest; and the digest of the same tariff active from minute 360. -/
theorem test_digest :
    tariffDigest worked = 1233141 ∧ tariffDigest { worked with activationMinute := 360 } = 1247541 := by decide

/-- The part with the worked tariff active. -/
def tariffed : Device := part.setTariffs { active := worked, pending := none }

/-- Table 3-3: the six band selections. -/
theorem test_bands :
    [(12345, 200), (12345, 700), (12345, 1100), (12346, 2), (12346, 600), (12348, 400)].map
        (fun (t : Nat × Nat) => bandInForce (withTime t.1 (t.2 * 60) tariffed))
      = [3, 0, 2, 3, 1, 0] := by decide

/-- An armed phase under the worked tariff, residue 9,000, in band 1 (day 12,346 is a Saturday). -/
def armed : Device :=
  withTime 12346 36000
    ((tariffed.setResidue 9000).setIntake { part.intake with filters := #v[.armed, .waiting, .waiting] })

/-- Table 1-5, quantum 1: 10,234 debits one mill and leaves 234. -/
theorem test_quantum :
    (after (.pulseArrival 0 .low false) armed).residue = 234
      ∧ (after (.pulseArrival 0 .low false) armed).account.balance = 49999
      ∧ (after (.pulseArrival 0 .low false) armed).intake.bands[1] = 1 := by decide

/-- Table 2-3: a debit of 100 at the floor. -/
theorem test_debit_at_floor :
    let d := debit 100 .energy (part.setAccount
      { part.account with balance := -99999950, debt := 99999980, creditState := .exhausted })
    d.account.balance = -99999999 ∧ d.account.debt = 99999999 ∧ d.account.charged = 100
      ∧ d.log.records.head?.map (·.data) = some (.accountLimit 32 .energy) := by decide

/-- Table 2-4: the account before the top-up. -/
def owing : Device :=
  part.setAccount
    { part.account with
      balance := -3000, emergency := 5000, debt := 30000, recoveryPercent := 25, creditState := .exhausted }

/-- Table 2-4: the worked code completes its check and is applied. -/
theorem test_top_up :
    let d := after .checkCompletion (inCheck typed owing)
    d.account.balance = 8250 ∧ d.account.emergency = 0 ∧ d.account.debt = 26250 ∧ d.account.creditState = .low
      ∧ d.account.purchased = 20000 := by decide

/-- Section 2.4.1: a prospective balance of 100,010,000 is refused OVER_LIMIT. -/
theorem test_over_limit :
    ((after .checkCompletion
        (inCheck typed (part.setAccount { part.account with balance := 99990000 }))).host.lastResult).map (·.outcome)
      = some .overLimit := by decide

/-- Section 2.6.1: the night window covers Friday 22:00 and Saturday 03:10, not Friday 21:58. -/
theorem test_friendly_window :
    let night : FriendlyWindow := { start := 1320, finish := 360, mask := 48 }
    windowCovers night 4 1318 = false ∧ windowCovers night 4 1320 = true ∧ windowCovers night 5 190 = true
      ∧ windowCovers night 5 360 = false := by decide

/-- Table 3-1: ten days owed at a mains return charge seven and forgo three. -/
theorem test_long_outage :
    let d := dayProcessing
      ((withTime 12356 36900 tariffed).setAccount { part.account with balance := 9000, creditState := .low }
        |>.setClock { now := { day := 12356, second := 36900 }, isSet := true, lastCharged := some 12346 })
    d.account.balance = 6200 ∧ d.clock.lastCharged = some 12356
      ∧ d.log.records.getLast?.map (·.data) = some (.daysForgone 3 12356) := by decide +kernel

/-- Table 3-6: the part before the set. -/
def eve : Device :=
  (withTime 12345 86250 part).setTariffs
    { active := { lossTariff with standing := 350 }, pending := some { tariff := worked, confirmed := true } }
    |>.setAccount { part.account with balance := 20000 }

/-- Table 3-6: the set across midnight, clamped to +300. -/
theorem test_set_across_midnight :
    let d := after (.hostSetTime [0x30, 0x3A, 0x00, 0x00, 0xB4]) eve
    d.clock.now = { day := 12346, second := 150 } ∧ d.account.balance = 19650
      ∧ d.tariffs = { active := worked, pending := none } ∧ hasNotice d.host.notices .timeClamped = true := by decide

/-- Table 4-6: insertions into a full list. -/
theorem test_full_list :
    let entry (n : Nat) : UsedCode := { issue := n, codeClass := 0, day := none }
    let full : Device := part.setCodes
      { part.codes with
        floor := 5000, used := entry 5100 :: entry 5103 :: (List.range 46).map fun i => entry (5154 + i) }
    let fields (n : Nat) : CodeFields := { codeClass := 1, issue := n, issueDay := 345, parameter := 0, value := 0 }
    let once := listCode (fields 5200) full
    let twice := listCode (fields 5102) once
    once.codes.floor = 5101 ∧ judgeFields (fields 5050) once = .tooOld ∧ twice.codes.floor = 5103
      ∧ twice.codes.used.length = 48 ∧ judgeFields (fields 5102) twice = .tooOld := by decide

/-- Table 5-7: the damaged key character discards the frame and raises the parity count. -/
theorem test_damaged_character :
    let d := after (.linkDamagedCharacter .parity)
      (part.setLink { part.link with assembly := .assembling [0x10, 0x01], presence := .watching 41 })
    d.link.assembly = .hunting ∧ d.link.parityErrors = 1 ∧ d.link.presence = .watching 41 := by decide

/-- R93: the bits of 0x7E and of 0x01 as sent, least significant first, even parity, idle stop. -/
theorem test_character_bits :
    sentCharacter 0x7E
        = { data := #v[false, true, true, true, true, true, true, false], parity := false, stopIdle := true }
      ∧ sentCharacter 0x01
        = { data := #v[true, false, false, false, false, false, false, false], parity := true, stopIdle := true } := by
  decide

/-- R93: a wrong parity bit is a parity error, and both faults are a framing error alone. -/
theorem test_character_faults :
    judgeCharacter { sentCharacter 0x03 with parity := true } = .damaged .parity
      ∧ judgeCharacter { sentCharacter 0x03 with parity := true, stopIdle := false } = .damaged .framing
      ∧ linkTakes (sentCharacter 0x03) = .linkGoodCharacter 0x03 := by decide

/-- Table 5-8, tick 15: ENTER with the step ARMED takes the emergency credit. -/
theorem test_emergency_take :
    let d := after .enterKey
      (((part.setAccount { part.account with balance := 900, creditState := .low }).setSettings
          { part.settings with emergencyAmount := 5000, emergencyThreshold := 2000 }).setKeypad
        { part.keypad with stepTimer := 8 })
    d.account.balance = 5900 ∧ d.account.emergency = 5000
      ∧ d.keypad.outcome = some (.accepted, .emergency) ∧ d.keypad.stepTimer = 0 := by decide

/-- Table 5-9: the fifth BAD_CHECK of keypad codes begins a lockout. -/
theorem test_lockout :
    let d := after .checkCompletion
      ((part.setKeypad { part.keypad with refusals := 4 }).setCodes
        { part.codes with inCheck := some { source := .keypad, digits := typed.set 3 6, ticket := 0 } })
    d.keypad.refusals = 0 ∧ d.keypad.lockout = 15 ∧ d.keypad.outcome = some (.badCheck, .code) := by decide

/-- An attempt as a drive start leaves it with an auxiliary contact that is not at the target. -/
def attempt (second : Bool) : Attempt :=
  { second := second, auxAtStart := true, driving := true, confirmed := false, waiting := false }

/-- Table 6-5, 500 ms: attempt 1 of a close ends in the retry wait with an empty set. -/
theorem test_retry_wait :
    (after .confirmationExpiry
        (withRelay (.closing { attempt false with driving := false }) noReasons part)).relay.state
      = .closing { attempt false with driving := false, waiting := true } := by decide

/-- Section 6.4.1: REMOTE at the retry expiry ends the close and begins an open operation at attempt 1. -/
theorem test_close_gives_way :
    openDrive (after .retryExpiry
        (withRelay (.closing { attempt false with driving := false, waiting := true }) remoteOnly part)) = true := by
  decide

/-- A part whose current slot holds `n` quanta under 5,000 W, at day 12,345, second `t`. -/
def loaded (n t : Nat) (history : List Nat) : Device :=
  (withTime 12345 t part).setLoad
    { part.load with slots := part.load.slots.set 11 n, limit := 5000, history := history }

/-- Table 6-8: S of 834 trips 5,000 W, S of 833 does not. -/
theorem test_trip :
    (after .slotBoundary (loaded 834 68399 [])).load.backoff = 60
      ∧ (after .slotBoundary (loaded 834 68399 [])).relay.reasons.load = true
      ∧ (after .slotBoundary (loaded 833 68399 [])).load.backoff = 0 := by decide

/-- Table 6-8: the third trip within the hour earns 1,800 s, one 4,080 s after the oldest earns 60 s. -/
theorem test_long_backoff :
    let day := 12345 * 86400
    (after .slotBoundary (loaded 836 68639 [day + 68400, day + 68520])).load.backoff = 1800
      ∧ (after .slotBoundary (loaded 834 72599 [day + 68400, day + 68520, day + 68640])).load.backoff = 60 := by decide

/-- R99, R111: LOAD leaves and returns within one tick, a trip falling with the end of a backoff; STATUS is due. -/
theorem test_load_leaves_and_returns :
    let d := after (.secondTick [.backoff])
      (withRelay .open { noReasons with load := true }
        ((loaded 834 68399 []).setLoad { (loaded 834 68399 []).load with backoff := 1 }))
    d.link.statusDue = true ∧ d.relay.reasons.load = true ∧ d.load.backoff = 60 := by decide

/-- Table 7-9, 80 ms: the filter expiry of a CASE line that is low latches CASE. -/
theorem test_case_latch :
    let d := after (.senseFilterExpiry 0)
      ((part.setCodes { part.codes with windowMinutes := 0 }).setTamper
        { part.tamper with
          lines := part.tamper.lines.set 0 { raw := .low, filtered := false, timing := true },
          sources := part.tamper.sources.set 0 (quiet .openBlock) })
    (sourceEntry d .case).latched = true ∧ (sourceEntry d .case).count = 1 ∧ d.relay.reasons.tamper = true
      ∧ codeBlock d = true ∧ (sourceEntry d .case).record = some 0 := by decide

/-- Table 7-10: with the window OPEN a cover detection counts and does not latch. -/
theorem test_cover_in_service :
    let d := after (.senseFilterExpiry 1)
      (part.setTamper
        { part.tamper with lines := part.tamper.lines.set 1 { raw := .low, filtered := false, timing := true } })
    (sourceEntry d .terminalCover).latched = false ∧ (sourceEntry d .terminalCover).count = 1
      ∧ d.log.records.map (·.data) = [.tamperInService .terminalCover 1] := by decide

/-- The log of section 8.4 before record 165. -/
def pressed : Device :=
  let record (n : Nat) : LogRecord := { number := n, time := none, data := .powerFail }
  (part.setTamper
    { part.tamper with
      sources := part.tamper.sources.set 0 { quiet .log with latched := true, record := some 37 } }).setLog
    { records := record 37 :: (List.range 63).map fun i => record (102 + i), next := 165, hostCursor := 100,
      serviceCursor := 150, mark := some 98 }

/-- Table 8-4: record 165 removes 102 and keeps the latching record 37. -/
theorem test_log_pressure :
    let d := addRecord (.loadTrip 0 0) pressed
    (heldNumbers d.log).take 2 = [37, 103] ∧ d.log.records.length = 64 ∧ d.log.next = 166 := by decide

/-- Table 8-4: the READ_LOG after it delivers 103 to 106, skipping 3, and leaves the cursor at 107. -/
theorem test_log_read :
    let d := after (.hostReadLog []) (addRecord (.loadTrip 0 0) pressed)
    d.log.hostCursor = 107 ∧ skippedCount 4 100 (addRecord (.loadTrip 0 0) pressed).log = 3 := by decide

/-- Section 8.4: SEEK_OLDEST then reads from 37 with 65 skipped. -/
theorem test_log_seek :
    let d := addRecord (.loadTrip 0 0) pressed
    (after (.hostSeekOldest []) d).log.hostCursor = 37 ∧ skippedCount 4 37 d.log = 65 := by decide

/-- R187, R188: a new part ends INITIALIZING UNCOMMISSIONED, its retained values lost, with ACCOUNT_LOST logged. -/
theorem test_first_start :
    let d := after (.endOfInitializing .high []) resetDevice
    d.power.part = .uncommissioned ∧ d.log.records.head?.map (·.data) = some .accountLost
      ∧ d.host.address = 0x25 ∧ d.relay.reasons.account = true ∧ d.codes.floor = 1000000 := by decide

/-- R185: the completion of COMMISSION puts the part into service with the issue floor 0. -/
theorem test_commission :
    let d := after .commissionCompletion
      ((withPart .uncommissioned { part with oneTime := none }).setService
        { part.service with commissioning := some { serial := key.take 12, key := key } })
    d.power.part = .inService ∧ d.oneTime = some { serial := key.take 12, key := key } ∧ d.codes.floor = 0 := by
  decide

/-- R177: a mains loss aborts the code in check and ends a test. -/
theorem test_mains_loss :
    let d := after .mainsLoss (inCheck typed part)
    d.power.supply = .battery ∧ d.codes.inCheck = none
      ∧ d.host.lastResult.map (·.outcome) = some .aborted
      ∧ d.log.records.head?.map (·.data) = some .powerFail := by decide

/-- R134: the lamps of a part in credit, CLOSED, with nothing latched, and of a protected relay ready to close. -/
theorem test_lamps :
    lampCredit part = .on ∧ lampSupply part = .on ∧ lampTamper part = .off
      ∧ lampSupply (withRelay .reconnectReady noReasons part) = .fast := by decide

/-- R47: meter time holds at its maximum. -/
theorem test_time_holds :
    (after (.secondTick []) (withTime 65535 86399 part)).clock.now = { day := 65535, second := 86399 } := by decide

/-! ### Witnesses -/

/-- A part with one command waiting. -/
def queued (c : Instr) (d : Device) : State := { device := d, pending := [c] }

/-- A phase ARMED, with a meter test running. -/
def testing : Device :=
  part.setIntake { part.intake with filters := #v[.armed, .waiting, .waiting], testActive := true, testTimer := 3599 }

theorem witness_FilterAndTestEdgesChargeNothing :
    (running part = true ∧ part.intake.filters[(0 : Phase)] = .waiting ∧ part.intake.pulseLines[(0 : Phase)] = .low)
      ∧ running testing = true ∧ testing.intake.filters[(0 : Phase)] = .armed ∧ testing.intake.testActive = true
      ∧ testing.power.part = .inService := by decide

/-- The relay OPEN by REMOTE, with an armed phase and accumulators `n` quanta full. -/
def openArmed (n : Nat) : Device :=
  withRelay .open remoteOnly (armed.setIntake { armed.intake with openEnergy := n, reverse := n + 10 })

theorem witness_ImportQuantumCharged :
    (∀ d ∈ [armed, openArmed 8, openArmed 9], running d = true ∧ d.intake.filters[(0 : Phase)] = .armed
        ∧ d.intake.testActive = false ∧ bandInForce d = 1)
      ∧ armed.relay.state = .closed ∧ (openArmed 8).relay.state ≠ .closed
      ∧ (openArmed 8).intake.openEnergy + 1 < (openArmed 8).tamper.bypassThreshold
      ∧ ¬ (openArmed 9).intake.openEnergy + 1 < (openArmed 9).tamper.bypassThreshold := by decide

theorem witness_OpenEnergyWatchesBypass :
    (∀ n ∈ [8, 9], running (openArmed n) = true ∧ (openArmed n).intake.filters[(0 : Phase)] = .armed
        ∧ (openArmed n).intake.testActive = false ∧ (openArmed n).relay.state ≠ .closed)
      ∧ (openArmed 8).intake.openEnergy + 1 < (openArmed 8).tamper.bypassThreshold
      ∧ (openArmed 9).tamper.bypassThreshold ≤ (openArmed 9).intake.openEnergy + 1 := by decide

theorem witness_ExportQuantumOnlyReverses :
    (∀ n ∈ [8, 9], running (openArmed n) = true ∧ (openArmed n).intake.filters[(0 : Phase)] = .armed
        ∧ (openArmed n).intake.testActive = false)
      ∧ (openArmed 8).intake.reverse + 1 < (openArmed 8).tamper.reverseThreshold
      ∧ (openArmed 9).tamper.reverseThreshold ≤ (openArmed 9).intake.reverse + 1 := by decide

theorem witness_SecondTickAdvancesTime :
    alive part = true ∧ (withTime 0 86398 part).clock.now.second < 86399
      ∧ ((withTime 65534 86399 part).clock.now.second = 86399 ∧ (withTime 65534 86399 part).clock.now.day < 65535)
      ∧ alive (withTime 65535 86399 part) = true := by decide

/-- Every timer one tick before its end, at a minute boundary. -/
def expiring : Device :=
  ((((withTime 12345 59 testing).setKeypad
        { part.keypad with stepTimer := 1, inactivity := 1, lockout := 1 }).setCodes
      { part.codes with windowMinutes := 1 }).setLoad { part.load with backoff := 1 }).setLink
    { part.link with presence := .watching 1 }

theorem witness_TimersExpireAtTheirTick :
    (alive expiring = true ∧ expiring.keypad.stepTimer = 1 ∧ expiring.keypad.inactivity = 1
        ∧ minuteNext expiring = true ∧ expiring.keypad.lockout = 1 ∧ expiring.codes.windowMinutes = 1
        ∧ expiring.intake.testActive = true ∧ expiring.intake.testTimer = 3599
        ∧ running expiring = true ∧ expiring.link.presence = .watching 1)
      ∧ (withTime 12345 58 expiring).load.backoff = 1 ∧ slotNext (withTime 12345 58 expiring) = false := by decide

/-- The part of Table 3-6 one tick before the day boundary. -/
def midnight : Device := withTime 12345 86399 eve

theorem witness_MinuteAndDayBoundariesAct :
    (minuteNext midnight = true ∧ midnight.power.part ≠ .initializing ∧ midnight.clock.isSet = true
        ∧ ∃ p ∈ midnight.tariffs.pending, p.confirmed = true
          ∧ activationDue p.tariff (advanceTime midnight.clock.now) = true)
      ∧ dayNext midnight = true ∧ running midnight = true ∧ midnight.clock.lastCharged = some 12345
      ∧ 12345 ≤ midnight.clock.now.day ∧ midnight.account.charged ≤ 999999999999 := by decide

theorem witness_SlotBoundaryTestsAndShifts :
    (∀ n ∈ [833, 834], slotNext (loaded n 68399 []) = true)
      ∧ ¬ (0 < (loaded 833 68399 []).load.limit ∧ 5000 < 6 * (loaded 833 68399 []).load.slots.toList.sum)
      ∧ 0 < (loaded 834 68399 []).load.limit ∧ 5000 < 6 * (loaded 834 68399 []).load.slots.toList.sum
      ∧ (loaded 834 68399 []).load.history.length ≤ 3 := by decide

theorem witness_DebitsAndTopUpsMoveMoneyExactly :
    (0 < 100 ∧ -99999999 ≤ part.account.balance ∧ part.account.debt ≤ 99999999
        ∧ -99999999 ≤ part.account.balance - (100 : Nat))
      ∧ (part.setAccount { part.account with balance := -99999999 }).account.balance - (1 : Nat) < -99999999
      ∧ owing.account.recoveryPercent ≤ 100 := by decide

theorem witness_AccountStaysInRange :
    ∃ t, AccountSound (queued (.pulseArrival 0 .low false) armed).device
      ∧ step (queued (.pulseArrival 0 .low false) armed) = .next t :=
  ⟨_, by unfold AccountSound; decide, rfl⟩

/-- Emergency credit available, the step ARMED. -/
def emergencyArmed : Device :=
  ((part.setAccount { part.account with balance := 900, creditState := .low }).setSettings
      { part.settings with emergencyAmount := 5000, emergencyThreshold := 2000 }).setKeypad
    { part.keypad with stepTimer := 1 }

theorem witness_KeysBesideDigitsAct :
    (linkReady 0x10 [0x0B] emergencyArmed ∧ 0 < emergencyArmed.keypad.stepTimer
        ∧ emergencyAvailable emergencyArmed = true)
      ∧ (linkReady 0x10 [0x0B] (part.setKeypad { part.keypad with stepTimer := 10 })
        ∧ emergencyAvailable (part.setKeypad { part.keypad with stepTimer := 10 }) = false)
      ∧ linkReady 0x10 [0x0C] part ∧ linkReady 0x10 [0x0E] part ∧ linkReady 0x10 [0x0D] part
      ∧ (withRelay .reconnectReady noReasons part).relay.state = .reconnectReady
      ∧ linkReady 0x10 [0x0D] (withRelay .reconnectReady noReasons part) := by
  unfold linkReady; decide

/-- The buffer holds `n` digits. -/
def entered (n : Nat) (d : Device) : Device := d.setKeypad { d.keypad with buffer := List.replicate n 5 }

theorem witness_DigitAndBackEditTheBuffer :
    linkReady 0x10 [BitVec.ofNat 8 (9 : Digit).val] (entered 23 part) ∧ (entered 23 part).keypad.buffer.length < 24
      ∧ linkReady 0x10 [BitVec.ofNat 8 (0 : Digit).val] (entered 24 part)
      ∧ 24 ≤ (entered 24 part).keypad.buffer.length ∧ linkReady 0x10 [0x0A] (entered 24 part) := by
  unfold linkReady; decide

/-- 24 digits typed while a KEYPAD code is in check, and while four host codes wait. -/
def keypadWaits : Device :=
  (entered 24 part).setCodes { part.codes with inCheck := some { source := .keypad, digits := typed, ticket := 0 } }

def queueFull : Device :=
  (entered 24 part).setCodes
    { part.codes with
      inCheck := some { source := .meterHost, digits := typed, ticket := 0 },
      queue := List.replicate 4 { source := .meterHost, digits := typed, ticket := 1 } }

theorem witness_EnterSubmitsOrRefuses :
    (∀ d ∈ [entered 0 part, entered 1 part, entered 23 part, entered 24 part, keypadWaits, queueFull],
        (running d = true ∧ admitsFrame d.link.assembly 0x10 [0x0B] = true) ∧ d.keypad.stepTimer = 0)
      ∧ (entered 0 part).keypad.buffer = [] ∧ 0 < (entered 1 part).keypad.buffer.length
      ∧ (entered 23 part).keypad.buffer.length < 24
      ∧ (entered 24 part).keypad.buffer.length = 24 ∧ (entered 24 part).keypad.lockout = 0
      ∧ 0 < ((entered 24 part).setKeypad { (entered 24 part).keypad with lockout := 1 }).keypad.lockout
      ∧ (∃ c ∈ keypadWaits.codes.inCheck.toList ++ keypadWaits.codes.queue, c.source = .keypad)
      ∧ (∀ c ∈ queueFull.codes.inCheck.toList ++ queueFull.codes.queue, c.source ≠ .keypad)
      ∧ 4 ≤ queueFull.codes.queue.length := by decide

theorem witness_PresenceAndOtherFrames :
    linkReady 0x11 [0x01, 7] (part.setLink { part.link with ciuCase := .closed })
      ∧ linkReady 0x11 [0x00, 7] part
      ∧ wellFormed (.linkOtherFrame 0x10 [0x0F]) = true ∧ linkReady 0x10 [0x0F] part := by
  unfold linkReady; decide

/-- Both assemblies as given. -/
def assembling (a : Assembly) (d : Device) : Device :=
  (d.setLink { d.link with assembly := a }).setService { d.service with assembly := a }

theorem witness_CharactersJudgedByTheirBits :
    running part = true
      ∧ ({ sentCharacter 0x10 with parity := false, stopIdle := false } : LineCharacter).stopIdle = false
      ∧ ({ sentCharacter 0x10 with parity := false } : LineCharacter).stopIdle = true
      ∧ (((sentCharacter 0x10).data.toList ++ [false]).count true % 2 = 1)
      ∧ (((sentCharacter 0x10).data.toList ++ [true]).count true % 2 = 0) := by decide

theorem witness_CharactersMoveTheAssembly :
    (∀ a ∈ [Assembly.hunting, .assembling [], .assembling [0x10], .assembling (0x10 :: 0x02 :: [0x03])],
        running (assembling a part) = true ∧ (assembling a part).link.assembly = a
          ∧ (assembling a part).service.assembly = a)
      ∧ ([0x03] : List Byte).length < (0x02 : Byte).toNat := by decide

theorem witness_StatusFramesFollowChanges :
    (running part = true
        ∧ (∀ due ∈ [true, false], (part.setLink { part.link with statusDue := due, periodRunning := true }).link.sending
          = none)
        ∧ (∀ due ∈ [true, false],
          (part.setLink { part.link with sending := some [], statusDue := due }).link.sending ≠ none))
      ∧ ∃ t, step (queued (.digitKey 5) part) = .next t ∧ running t.device = true
        ∧ displayed t.device ≠ displayed part :=
  ⟨by decide, { device := after (.digitKey 5) part, pending := [] }, rfl, by decide, by decide⟩

theorem witness_FramesTakenByCharacters :
    running part = true ∧ (List.replicate 64 (0 : Byte)).length ≤ 64 ∧ part.link.assembly = .hunting
      ∧ part.service.assembly = .hunting := by decide

theorem witness_CheckDigitsCatchSlips :
    (unmask typed key).length = 24 ∧ checkRight (unmask typed key) = true
      ∧ ((unmask typed key)[4]? ≠ (unmask typed key)[5]?)
      ∧ part.oneTime = some { serial := key.take 12, key := key } ∧ part.power.part = .inService
      ∧ checkRight (unmask (typed.set 0 0) key) = false
      ∧ (unmask (typed.set 0 2) key).head? = some 5 ∧ checkRight (unmask (typed.set 0 2) key) = false := by decide

/-- The entered digits of a code of a class, with issue 200, issue day 345 and right check digits (section 4.1). -/
def codeOfClass (c : Digit) (parameter : Digit) (value : List Digit) : List Digit :=
  let front : List Digit := [c, 0, 0, 0, 2, 0, 0, 3, 4, 5, parameter, parameter] ++ value
  let check := 98 - digitField front 0 22 * 100 % 97
  List.zipWith (· + ·) (front ++ [Fin.ofNat 10 (check / 10), Fin.ofNat 10 (check % 10)]) key

/-- A part that accepts a code of every class: the worked tariff is pending, its digest 1,233,141. -/
def accepting : Device := part.setTariffs { part.tariffs with pending := some { tariff := worked, confirmed := false } }

/-- One code of each class. -/
def eachClass : List (List Digit) :=
  [codeOfClass 0 0 [0, 0, 0, 0, 0, 2, 0, 0, 0, 0], codeOfClass 1 0 [0, 0, 0, 0, 0, 2, 0, 0, 0, 0],
    codeOfClass 2 9 [0, 0, 0, 0, 0, 0, 0, 0, 0, 0], codeOfClass 3 0 [0, 0, 0, 0, 0, 0, 5, 0, 0, 0],
    codeOfClass 4 0 [0, 0, 0, 1, 2, 3, 3, 1, 4, 1], codeOfClass 5 0 [0, 0, 0, 0, 0, 0, 0, 0, 6, 0],
    codeOfClass 6 0 [0, 0, 0, 0, 0, 0, 0, 0, 0, 0]]

/-- The state a SERVICE_OPEN code finds after retained loss (R78). -/
def listLost : Device := part.setCodes { part.codes with floor := 1000000 }

theorem witness_CheckCompletionJudgesAndReports :
    (inCheck typed part).codes.inCheck = some { source := .meterHost, digits := typed, ticket := 17 }
      ∧ (judgeCode (typed.set 0 0) (inCheck typed part)).1 = .badCheck
      ∧ eachClass.map (fun c => (judgeCode c (inCheck c accepting)).1) = List.replicate 7 .accepted
      ∧ eachClass.map (fun c => (judgeCode c (inCheck c accepting)).2.map (·.codeClass))
        = [some 0, some 1, some 2, some 3, some 4, some 5, some 6]
      ∧ (∀ c ∈ eachClass, ∀ f ∈ (judgeCode c (inCheck c accepting)).2, exemptCode f accepting.codes = false)
      ∧ accepting.log.next + 4 ≤ 4294967296
      ∧ ∃ f ∈ (judgeCode (codeOfClass 5 0 [0, 0, 0, 0, 0, 0, 0, 0, 6, 0]) listLost).2,
        exemptCode f listLost.codes = true := by decide

/-- Issue numbers below 100 spent, and 123 listed. -/
def spent : Device :=
  part.setCodes { part.codes with floor := 100, used := [{ issue := 123, codeClass := 0, day := none }] }

theorem witness_SpentIssueIsNeverAcceptedAgain :
    (∀ n ∈ [99, 123], (n < spent.codes.floor ∨ n ∈ usedIssues spent.codes)
        ∧ exemptCode { codeClass := 0, issue := n, issueDay := 0, parameter := 0, value := 1 } spent.codes = false)
      ∧ ∃ t, UsedSound (queued .checkCompletion (inCheck typed spent)).device
        ∧ step (queued .checkCompletion (inCheck typed spent)) = .next t
        ∧ (inCheck typed spent).power.part ≠ .uncommissioned ∧ (inCheck typed spent).power.part ≠ .accountLost :=
  ⟨by decide, _, by unfold UsedSound; decide, rfl, by decide, by decide⟩

theorem witness_CodeStoresStaySound :
    ∃ t, UsedSound (queued .enterKey queueFull).device ∧ QueueSound (queued .enterKey queueFull).device
      ∧ step (queued .enterKey queueFull) = .next t :=
  ⟨_, by unfold UsedSound; decide, by unfold QueueSound; decide, rfl⟩

theorem witness_SubmitCodeQueuesWithTicket :
    hostReady typedBytes part ∧ serviceReady 0x4C typedBytes part ∧ codeOf typedBytes = some typed
      ∧ codeOf [] = none ∧ hostReady typedBytes queueFull ∧ 4 ≤ queueFull.codes.queue.length := by
  unfold hostReady serviceReady; decide

/-- An attempt driving, with and without an auxiliary position and a confirmation. -/
def drives : List Attempt :=
  [attempt false, { attempt true with confirmed := true }, { attempt false with auxAtStart := false }]

/-- S4 under AUX_CONTACT, active high, its raw level reading `p`, its filter timing with the state `closed` held. -/
def auxMoving (p : Position) (closed : Bool) (d : Device) : Device :=
  d.setTamper
    { d.tamper with
      table := (d.tamper.table.set 3 { function := .none, activeHigh := false, filterTime := 50 }).set 4
        { function := .auxContact, activeHigh := true, filterTime := 50 },
      lines := d.tamper.lines.set 4
        { raw := (match p with | .open => .low | .closed => .high), filtered := closed, timing := true } }

theorem witness_RelayOperationsSettleRetryAndStick :
    (∀ a ∈ drives, running part = true ∧ a.driving = true
        ∧ (∀ r ∈ [remoteOnly, noReasons], (withRelay (.opening a) r part).relay.state = .opening a
          ∧ (withRelay (.closing a) r part).relay.state = .closing a))
      ∧ (∀ second ∈ [true, false],
        let a : Attempt := { attempt second with driving := false }
        a.driving = false ∧ a.confirmed = false ∧ a.waiting = false ∧ a.second = second
          ∧ { a with waiting := true }.waiting = true)
      ∧ (let d := auxMoving .open false part
        watchRunning d = true ∧ settledPosition d.relay.state = some .closed)
      ∧ (∀ r ∈ [remoteOnly, noReasons], serviceReady 0x55 [] (withRelay (.stuck .open) r part)
        ∧ (withRelay (.stuck .open) r part).relay.state = .stuck .open ∧ 0 < part.codes.windowMinutes) := by
  unfold serviceReady; decide

theorem witness_RelayStateFitsReasons :
    ∃ t, PowerSound (queued (.remoteHold []) part).device ∧ RelaySound (queued (.remoteHold []) part).device
      ∧ step (queued (.remoteHold []) part) = .next t :=
  ⟨_, by unfold PowerSound; decide, by unfold RelaySound; decide, rfl⟩

theorem witness_CloseDriveNeedsEmptySet :
    let s := queued .reconnectKey (withRelay .reconnectReady noReasons part)
    ∃ t, PowerSound s.device ∧ RelaySound s.device ∧ step s = .next t ∧ closeDrive s.device = false
      ∧ closeDrive t.device = true :=
  ⟨{ device := after .reconnectKey (withRelay .reconnectReady noReasons part), pending := [] },
    by unfold PowerSound; decide, by unfold RelaySound; decide, rfl, by decide, by decide⟩

theorem witness_RetryRelayOutsideStuck :
    (serviceReady 0x55 [] part ∧ 0 < part.codes.windowMinutes
        ∧ (settledPosition part.relay.state).isSome = true)
      ∧ serviceReady 0x55 [] (withRelay (.opening (attempt false)) remoteOnly part)
      ∧ inOperation (withRelay (.opening (attempt false)) remoteOnly part).relay.state = true := by
  unfold serviceReady; decide

/-- S0 low and timing under CASE, in service and during INITIALIZING. -/
def caseTiming : Device :=
  part.setTamper
    { part.tamper with lines := part.tamper.lines.set 0 { raw := .low, filtered := false, timing := true } }

/-- S4 low and timing under RECONNECT_BUTTON, the relay ready to close. -/
def pressing : Device :=
  withRelay .reconnectReady noReasons
    (part.setTamper
      { part.tamper with lines := part.tamper.lines.set 4 { raw := .low, filtered := false, timing := true } })

/-- The relay states in which a position reached matters, toward `p`. -/
def reaching (p : Position) : List RelayState :=
  [operationState p (attempt false), operationState p { attempt false with driving := false },
    operationState p { attempt false with driving := false, waiting := true },
    operationState p { attempt true with auxAtStart := false }, .stuck p, .closed, .open]

theorem witness_SenseLinesFilterAndDetect :
    ((∀ d ∈ [caseTiming, withPart .initializing caseTiming],
          sensed d (0 : Line) = true ∧ d.tamper.lines[(0 : Line)].timing = true
            ∧ alwaysOn d.tamper.table[(0 : Line)].function = true
            ∧ functionSource d.tamper.table[(0 : Line)].function = some .case
            ∧ functionActive d d.tamper.table[(0 : Line)].function = false
            ∧ levelActive d.tamper.table[(0 : Line)] d.tamper.lines[(0 : Line)].raw = true)
        ∧ Level.high ≠ caseTiming.tamper.lines[(0 : Line)].raw)
      ∧ (sensed pressing (4 : Line) = true ∧ pressing.tamper.lines[(4 : Line)].timing = true
        ∧ pressing.tamper.table[(4 : Line)].function = .reconnectButton)
      ∧ (∀ p ∈ [Position.open, .closed], ∀ st ∈ reaching p, ∀ was ∈ [true, false],
        let d := auxMoving p was (withRelay st noReasons part)
        sensed d (4 : Line) = true ∧ d.tamper.lines[(4 : Line)].timing = true
          ∧ d.tamper.table[(4 : Line)].function = .auxContact ∧ d.relay.state = st
          ∧ auxPosition d = some (if was then .closed else .open)) := by decide

/-- METROLOGY latched, and a CLEAR_TAMPER code for all sources in check: 2 000200 345 99 0000000000 94 unmasked. -/
def clearing : Device :=
  let u : List Digit := [2, 0, 0, 0, 2, 0, 0, 3, 4, 5, 9, 9, 0, 0, 0, 0, 0, 0, 0, 0, 0, 0, 9, 4]
  inCheck (List.zipWith (· + ·) u key)
    (part.setTamper { part.tamper with sources := part.tamper.sources.set 7 { quiet .log with latched := true } })

theorem witness_LatchFallsOnlyByClearingCode :
    ∃ t, step (queued .checkCompletion clearing) = .next t
      ∧ (sourceEntry clearing .metrology).latched = true ∧ (sourceEntry t.device .metrology).latched = false :=
  ⟨{ device := after .checkCompletion clearing, pending := [] }, rfl, by decide, by decide⟩

theorem witness_ReasonsFollowTheirOwners :
    ∃ t, ReasonsSound (queued .slotBoundary (loaded 834 68399 [])).device
      ∧ LoadSound (queued .slotBoundary (loaded 834 68399 [])).device
      ∧ step (queued .slotBoundary (loaded 834 68399 [])) = .next t :=
  ⟨_, by unfold ReasonsSound; decide, by unfold LoadSound; decide, rfl⟩

theorem witness_TestRunsOnlyUnderOpenWindow :
    ∃ t, TestSound (queued (.secondTick []) testing).device ∧ step (queued (.secondTick []) testing) = .next t :=
  ⟨_, by unfold TestSound; decide, rfl⟩

theorem witness_LogStaysSound :
    ∃ t, LogSound (queued .mainsLoss pressed).device ∧ step (queued .mainsLoss pressed) = .next t :=
  ⟨_, by unfold LogSound; decide, rfl⟩

theorem witness_LogReadsMoveTheirOwnCursor :
    ((heldNumbers pressed.log).Pairwise (· < ·) ∧ 0 < 4 ∧ running pressed = true ∧ serviceReady 0x49 [] pressed)
      ∧ pressed.log.mark = some 98 ∧ part.log.mark = none ∧ running part = true := by
  unfold serviceReady; decide

theorem witness_SeekMovesItsOwnCursor :
    ((heldNumbers pressed.log).Pairwise (· < ·) ∧ 37 ∈ heldNumbers pressed.log
        ∧ (∀ n ∈ heldNumbers pressed.log, 37 ≤ n) ∧ 164 ∈ heldNumbers pressed.log
        ∧ (∀ n ∈ heldNumbers pressed.log, n ≤ 164) ∧ running pressed = true
        ∧ serviceReady 0x4A [] pressed ∧ serviceReady 0x4B [] pressed)
      ∧ ∃ t, step (queued (.endOfInitializing .low []) resetDevice) = .next t
        ∧ resetDevice.power.part = .initializing ∧ resetDevice.power.storeIntact = false
        ∧ t.device.power.part ≠ .initializing :=
  ⟨by unfold serviceReady; decide, { device := after (.endOfInitializing .low []) resetDevice, pending := [] }, rfl,
    by decide, by decide, by decide⟩

theorem witness_HostReadsChangeNoBlock :
    running part = true ∧ hostReady [0x02] part ∧ 1 < (0x02 : Byte).toNat ∧ hostReady (List.replicate 48 0) part := by
  unfold hostReady; decide

theorem witness_BadFramesAndReadsOfTheBuffer :
    (running part = true ∧ (0x00 : Byte) = 0x00 ∧ 0x16 < (0x17 : Byte).toNat
        ∧ (part.setHost { part.host with response := .preparing (refusal .badValue) }).host.response
          = .preparing (refusal .badValue))
      ∧ part.host.transaction = .idle ∧ (0x25 : Byte) ≠ part.host.address ∧ (0x24 : Byte) = part.host.address
      ∧ hostCommand [0x14, 0x00, 0xEC] = some (.getNotices [])
      ∧ alive part = true ∧ part.power.resetAsserted = false := by decide

theorem witness_NoticesAndOutcomesCollectedOnce :
    running part = true ∧ hostReady [0x01, 0xFF] part ∧ beNat [0x01, 0xFF] < 512
      ∧ ¬ ([0x02, 0x00].length = 2 ∧ beNat [0x02, 0x00] < 512) := by
  unfold hostReady; decide

/-- Day 12,345 with seconds of day 86,399 and 86,400, and the steps of +300, +301, -300 and -301 from 43,200. -/
theorem witness_SetTimeClampsTheHostOnly :
    (∀ b ∈ [[0x30, 0x39, 0x01, 0x51, 0x7F], [0x30, 0x39, 0x00, 0xA9, 0xEC], [0x30, 0x39, 0x00, 0xA9, 0xED],
          [0x30, 0x39, 0x00, 0xA7, 0x94], [0x30, 0x39, 0x00, 0xA7, 0x93]],
        ∃ t ∈ timeOf b, t.second ≤ 86399)
      ∧ (∃ t ∈ timeOf [0x30, 0x39, 0x01, 0x51, 0x80], 86399 < t.second)
      ∧ (∃ t ∈ timeOf [0x30, 0x39, 0x00, 0xA9, 0xEC], t.second = part.clock.now.second + 300)
      ∧ (∃ t ∈ timeOf [0x30, 0x39, 0x00, 0xA7, 0x94], t.second = part.clock.now.second - 300)
      ∧ running part = true ∧ part.clock.now.day ≤ 65535 ∧ part.clock.now.second ≤ 86399
      ∧ serviceReady 0x50 [0x30, 0x39, 0x01, 0x51, 0x7F] part ∧ 0 < part.codes.windowMinutes := by
  unfold serviceReady; decide

theorem witness_HoldsAndReleasesChangeTheirReason :
    running part = true ∧ serviceReady 0x53 [] part ∧ serviceReady 0x54 [] part ∧ 0 < part.codes.windowMinutes
      ∧ part.relay.state = .closed ∧ { part.relay.reasons with remote := true } ≠ part.relay.reasons
      ∧ ({ part.relay.reasons with remote := true } : Reasons).isEmpty = false
      ∧ (withRelay .open remoteOnly part).relay.state = .open
      ∧ ({ remoteOnly with remote := false } : Reasons).isEmpty = true := by
  unfold serviceReady; decide

theorem witness_PendingTariffCancelled :
    running eve = true ∧ eve.tariffs.pending ≠ none ∧ part.tariffs.pending = none ∧ serviceReady 0x52 [] eve
      ∧ serviceReady 0x52 [] part ∧ 0 < eve.codes.windowMinutes
      ∧ (part.setCodes { part.codes with windowMinutes := 0 }).codes.windowMinutes = 0 := by
  unfold serviceReady; decide

/-- A packed record of no entries: prices 0, standing 0, mask 0, time 0, 19 bytes (R194). -/
theorem witness_PendingTariffPut :
    hostReady (List.replicate 19 0) part ∧ serviceReady 0x51 (List.replicate 19 0) part
      ∧ 0 < part.codes.windowMinutes ∧ (packedTariff (List.replicate 19 0)).isSome = true
      ∧ packedTariff [] = none := by
  unfold hostReady serviceReady; decide

theorem witness_MetrologyReportDetected :
    running part = true ∧ (sourceEntry part .metrology).latched = false ∧ logRoom 1 part
      ∧ (sourceEntry clearing .metrology).latched = true ∧ running clearing = true := by
  unfold logRoom; decide

theorem witness_RestartClearsWorkingState :
    running part = true ∧ serviceReady 0x5A [] part ∧ 0 < part.codes.windowMinutes := by
  unfold serviceReady; decide

theorem witness_ServiceReadsChangeNoBlock :
    (serviceReady 0x41 [] part ∧ serviceReady 0x45 [] part ∧ serviceReady 0x46 [] part ∧ serviceReady 0x48 [] part)
      ∧ ∀ page ∈ [(0x00 : Byte), 0x01, 0xFF],
        serviceReady 0x40 [page] part ∧ serviceReady 0x43 [page] part ∧ serviceReady 0x44 [page] part
          ∧ serviceReady 0x47 [page] part ∧ serviceReady 0x42 [0x00, page] part
          ∧ serviceReady 0x42 [0x01, page] eve ∧ serviceReady 0x41 [page] part := by
  unfold serviceReady; exact ⟨by decide, by decide⟩

/-- A COMMISSION write in flight in UNCOMMISSIONED. -/
def writing : Device :=
  (withPart .uncommissioned { part with oneTime := none }).setService
    { part.service with commissioning := some { serial := key.take 12, key := key } }

/-- A response waits. -/
def replying : Device :=
  part.setService { part.service with waiting := some { request := 0x41, answer := accepted [] } }

theorem witness_ChangingRequestsNeedTheWindow :
    (∀ d ∈ [part, writing, replying], running d = true ∧ admitsFrame d.service.assembly 0x4E [] = true)
      ∧ replying.service.waiting ≠ none ∧ writing.service.waiting = none ∧ writing.service.commissioning ≠ none
      ∧ part.service.waiting = none ∧ part.service.commissioning = none
      ∧ (part.setCodes { part.codes with windowMinutes := 0 }).codes.windowMinutes = 0
      ∧ 0x4E ≤ (0x5A : Byte).toNat ∧ (0x5A : Byte).toNat ≤ 0x5A := by decide

theorem witness_CommissionWritesTheStoreOnce :
    ∃ t, StoreSound (queued .commissionCompletion writing).device
      ∧ step (queued .commissionCompletion writing) = .next t ∧ writing.oneTime = none
      ∧ t.device.oneTime = some { serial := key.take 12, key := key } :=
  ⟨{ device := after .commissionCompletion writing, pending := [] }, by unfold StoreSound; decide, rfl, rfl, by decide⟩

theorem witness_CommissionRequestAndCompletion :
    (∀ p ∈ [List.replicate 36 (0 : Byte), List.replicate 36 0x0A], p.length = 36
        ∧ serviceReady 0x4D p part ∧ serviceReady 0x4D p (withPart .uncommissioned part))
      ∧ part.power.part ≠ .uncommissioned ∧ digitsOf (List.replicate 36 0x0A) = none
      ∧ (digitsOf (List.replicate 36 (0 : Byte))).isSome = true
      ∧ writing.service.commissioning = some { serial := key.take 12, key := key } ∧ running writing = true
      ∧ writing.power.part = .uncommissioned := by
  unfold serviceReady; decide

theorem witness_WriteConfigStoresTheClampedValue :
    (serviceReady 0x4E [0x0B] part ∧ 0 < part.codes.windowMinutes ∧ configWrite [0x0B] = none)
      ∧ serviceReady 0x4E [0x07, 0xFF, 0xFF, 0xFF] part
      ∧ configWrite [0x07, 0xFF, 0xFF, 0xFF] = some (.loadLimit 99999) ∧ logRoom 3 part
      ∧ [2399, 2400, 4799, 4800, 9599, 9600]
        = [[0x09, 0x5F], [0x09, 0x60], [0x12, 0xBF], [0x12, 0xC0], [0x25, 0x7F], [0x25, 0x80]].map beNat
      ∧ (sourceNumber .metrology).val = (0x07 : Byte).toNat ∧ (0x03 : Byte).toNat < 4 := by
  unfold serviceReady logRoom; decide +kernel

/-- Table 10-3: 3,000 bit/s is stored as 2,400 (R94), 1,000 days as 999, an action of 3 as OPEN_BLOCK. -/
theorem test_config_clamps :
    configWrite [0x06, 0x0B, 0xB8] = some (.linkRate .r2400)
      ∧ configWrite [0x05, 0x03, 0xE8] = some (.codeValidityDays 999)
      ∧ configWrite [0x0A, 0x00, 0x03] = some (.sourceAction .case .openBlock) := by decide +kernel

theorem witness_FunctionTableWriteRearms :
    (serviceReady 0x4F [0x05, 0x05, 0x01, 0xFF, 0xFF] part ∧ 0 < part.codes.windowMinutes
        ∧ (0x05 : Byte).toNat < 6 ∧ functionOf 0x05 = some .reconnectButton ∧ polarityOf 0x01 = some false)
      ∧ serviceReady 0x4F [0x06, 0x00, 0x00, 0x00, 0x00] part ∧ 5 < (0x06 : Byte).toNat := by
  unfold serviceReady; decide

theorem witness_TestStartsAndEnds :
    0 < part.codes.windowMinutes ∧ serviceReady 0x56 [] part ∧ part.power.part = .inService
      ∧ serviceReady 0x56 [] (withPart .accountLost part) ∧ serviceReady 0x57 [] part
      ∧ part.intake.testActive = false ∧ serviceReady 0x57 [] testing ∧ testing.intake.testActive = true
      ∧ serviceReady 0x56 [] testing ∧ testing.power.part = .inService
      ∧ logRoom 1 testing := by
  unfold serviceReady logRoom; decide

theorem witness_RestoreAccountRebuilds :
    (∀ d ∈ [part, withPart .accountLost part], serviceReady 0x58 (List.replicate 12 0xFF) d
        ∧ 0 < d.codes.windowMinutes ∧ logRoom 3 d)
      ∧ (List.replicate 12 (0xFF : Byte)).length = 12 ∧ part.power.part ≠ .accountLost := by
  unfold serviceReady logRoom; decide

theorem witness_ServicePortFraming :
    running part = true
      ∧ (∀ kind ∈ [(0x3F : Byte), 0x5B], serviceReady kind [] part ∧ (kind.toNat < 0x40 ∨ 0x5A < kind.toNat))
      ∧ part.service.sending = none
      ∧ (part.setService { part.service with sending := replying.service.waiting }).service.sending ≠ none
      ∧ serviceReady 0x59 [] part ∧ 0 < part.codes.windowMinutes := by
  unfold serviceReady; decide

theorem witness_MainsLossStopsTheWork : running part = true ∧ logRoom 2 part := by
  unfold logRoom; decide

theorem witness_MainsReturnResolvesTheRelay :
    (∀ d ∈ [withSupply .battery part, withSupply .battery (withRelay .open remoteOnly part),
          withSupply .battery (withRelay .closed remoteOnly part)],
        d.power.supply = .battery ∧ d.power.part ≠ .initializing ∧ d.relay.state ≠ .stuck .open
          ∧ d.relay.state ≠ .stuck .closed)
      ∧ ∀ at_ ∈ [Position.open, .closed],
        let d := withSupply .battery (auxMoving at_ false (withRelay (.stuck .open) remoteOnly part))
        d.power.supply = .battery ∧ d.power.part ≠ .initializing ∧ d.relay.state = .stuck .open
          ∧ auxPosition (after (.mainsReturn .low) d) = some at_ := by decide

/-- INITIALIZING with RESET asserted, in each power state. -/
def held (x : Supply) : Device :=
  resetDevice.setPower { resetDevice.power with supply := x, resetAsserted := true, initTiming := false }

theorem witness_ResetAndSupplyLossEnterInitializing :
    (alive part = true ∧ part.power.resetAsserted = false)
      ∧ (∀ x ∈ [Supply.mains, .battery], (held x).power.resetAsserted = true
        ∧ (held x).power.part = .initializing ∧ (held x).power.supply = x)
      ∧ alive (withSupply .none resetDevice) = false := by decide

/-- INITIALIZING with an intact store, CASE deferred. -/
def deferring : Device :=
  (resetDevice.setPower { resetDevice.power with storeIntact := true }).setTamper
    { resetDevice.tamper with deferred := { noDeferred with case := true } }

theorem witness_EndOfInitializingChoosesThePart :
    (∀ d ∈ [resetDevice, deferring],
        d.power.part = .initializing ∧ d.power.initTiming = true ∧ d.power.supply = .mains
          ∧ d.relay.state = .unheld)
      ∧ resetDevice.power.storeIntact = false ∧ deferring.power.storeIntact = true
      ∧ deferredSources deferring.tamper.deferred = [.case] := by decide

theorem witness_FramesDecodeToTheirCommands :
    wellFormed (.hostSubmitCode typedBytes) = true ∧ wellFormed (.linkOtherFrame 0x10 [0x0F]) = true
      ∧ wellFormed (.writeConfig (List.replicate 64 0)) = true
      ∧ (hostEncode (.hostSubmitCode typedBytes)).isSome = true ∧ (linkEncode (.digitKey 9)).isSome = true
      ∧ (serviceEncode (.writeConfig [])).isSome = true := by decide

theorem witness_EveryRangeIsKept :
    ∃ t, step (queued .minuteBoundary expiring) = .next t ∧ ClockSound expiring ∧ TariffsSound expiring
      ∧ KeypadSound (part.setKeypad { part.keypad with stepTimer := 10 }) ∧ LinkSound expiring
      ∧ TamperSound expiring :=
  ⟨_, rfl, by unfold ClockSound; decide, by unfold TariffsSound; decide, by unfold KeypadSound; decide,
    by unfold LinkSound; decide, by unfold TamperSound; decide⟩

end Sys2Proof.Tests
end

section
/-! PROOFS. Pulse arrivals: what an event and a detection do, and the reverse routing of a quantum with Dn high. -/

namespace Sys2Proof.Machine

/-! ### Whole events -/

/-- A command that is one whole event answers whatever holds of the device it leaves, its display noted. -/
theorem answers_of_takeEvent {c : Instr} {s : State} {f : Device → Device} {after : Device → Prop}
    (hexec : exec c s = takeEvent s f) (hafter : after (noteDisplay s.device (f s.device))) : answers c s after :=
  ⟨_, hexec.trans (takeEvent_eq s f), rfl, hafter⟩

/-- No register of the intake is a displayed field (R98). -/
@[simp] theorem displayed_setIntake (d : Device) (x : Intake) : displayed (d.setIntake x) = displayed d := rfl

/-- A change of the intake alone sends no STATUS frame (R99). -/
@[simp] theorem noteDisplay_setIntake (d : Device) (x : Intake) :
    noteDisplay d (d.setIntake x) = d.setIntake x := by
  simp [noteDisplay]

/-- An event changes what its operation changes: the display's note is outside every frame. -/
theorem keepsBut_noteDisplay {l : List Block} {d e : Device} (h : keepsBut l d e) :
    keepsBut l d (noteDisplay d e) :=
  keepsBut_trans h (keepsBut_mono (noteDisplay_keeps d e) (List.nil_subset l))

@[simp] theorem sourceEntry_noteDisplay (old new : Device) (s : Source) :
    sourceEntry (noteDisplay old new) s = sourceEntry new s := by
  simp only [sourceEntry, noteDisplay_tamper]

/-! ### Detections (R146) -/

@[simp] theorem evaluateTamper_tamper (d : Device) : (evaluateTamper d).tamper = d.tamper :=
  evaluateTamper_keeps d .tamper (by decide)

@[simp] theorem detect_intake (s : Source) (detail : Option Byte) (d : Device) :
    (detect s detail d).intake = d.intake :=
  detect_keeps s detail d .intake (by decide)

/-- The source that latches is latched; evaluating the TAMPER reason moves no entry. -/
theorem latchSource_latched (s : Source) (detail : Option Byte) (d : Device) :
    (sourceEntry (latchSource s detail d) s).latched = true := by
  simp [latchSource, sourceEntry, setSource, raiseNotice]

/-- After a detection that the service window does not exempt, its source is latched, whether it was before or not. -/
theorem detect_latched {s : Source} {d : Device} (h : exempted s d = false) (detail : Option Byte) :
    (sourceEntry (detect s detail d) s).latched = true := by
  simp only [detect, h, Bool.false_eq_true, if_false]
  split
  case isTrue latched => rw [sourceEntry_setSource]; exact latched
  case isFalse => exact latchSource_latched s detail d

/-- REVERSE is never exempt: only CASE and TERMINAL_COVER are. -/
theorem exempted_reverse (d : Device) : exempted .reverse d = false := Bool.and_false _

/-! ### Reverse routing (R6, R9) -/

theorem reverseRouting_below {d : Device} (h : d.intake.reverse + 1 < d.tamper.reverseThreshold) :
    reverseRouting d = d.setIntake { d.intake with reverse := d.intake.reverse + 1 } :=
  if_neg (Nat.not_le.mpr h)

theorem reverseRouting_reached {d : Device} (h : d.tamper.reverseThreshold ≤ d.intake.reverse + 1) :
    reverseRouting d = detect .reverse none (d.setIntake { d.intake with reverse := 0 }) :=
  if_pos h

/-- Outside a meter test a quantum with Dn high takes the reverse routing, in every part state (R3). -/
theorem routeQuantum_high {p : Phase} {openFirst : Bool} {d : Device} (h : d.intake.testActive = false) :
    routeQuantum p .high openFirst d = reverseRouting d := by
  simp [routeQuantum, h]

theorem exec_pulseArrival (p : Phase) (direction : Level) (openFirst : Bool) (s : State) :
    exec (.pulseArrival p direction openFirst) s = execPulseArrival p direction openFirst s := rfl

/-- With the intake on, the filter ARMED and no meter test, an arrival with Dn high is reverse routing once the line has
risen and the filter waits again (R1, R3). -/
theorem exec_pulseArrival_high {s : State} {p : Phase} (openFirst : Bool) (hrun : running s.device = true)
    (harmed : s.device.intake.filters[p] = .armed) (htest : s.device.intake.testActive = false) :
    exec (.pulseArrival p .high openFirst) s
      = takeEvent s fun d => reverseRouting (setFilter p .waiting (setPulseLine p .high d)) := by
  have hguard : running s.device = true ∧ s.device.intake.filters[p] = .armed := ⟨hrun, harmed⟩
  have htest' : (setFilter p .waiting (setPulseLine p .high s.device)).intake.testActive = false := htest
  simp only [exec_pulseArrival, execPulseArrival, takeEvent_eq, if_pos hguard, routeQuantum_high htest']

/-- Settles O6: the arrival is reverse routing, which below the threshold is one update of the intake and at the
threshold is a detection of REVERSE, whose frame holds every other block. -/
theorem exportQuantumOnlyReverses : Obligations.ExportQuantumOnlyReverses := by
  intro s p openFirst hrun harmed htest
  have harrival := exec_pulseArrival_high openFirst hrun harmed htest
  constructor
  · intro hbelow
    apply answers_of_takeEvent harrival
    rw [reverseRouting_below (d := setFilter p .waiting (setPulseLine p .high s.device)) hbelow]
    exact noteDisplay_setIntake s.device _
  · intro hreached
    apply answers_of_takeEvent harrival
    rw [reverseRouting_reached (d := setFilter p .waiting (setPulseLine p .high s.device)) hreached]
    refine ⟨?intake, ?latched, ?frame⟩
    case intake => rw [noteDisplay_intake, detect_intake]; rfl
    case latched => rw [sourceEntry_noteDisplay]; exact detect_latched (exempted_reverse _) none
    case frame => exact keepsBut_noteDisplay (keepsBut_comp (setIntake_keeps s.device _) (detect_keeps _ _ _))

end Sys2Proof.Machine
end

section
/-! PROOFS. Check digits (R68): the number of a run of digits, the remainder 1 modulo 97, and the slips it catches. -/

namespace Sys2Proof.Machine

/-! ### The number of a run of digits (R67) -/

@[simp] theorem digitsNumber_nil : digitsNumber [] = 0 := rfl

@[simp] theorem digitsNumber_singleton (a : Digit) : digitsNumber [a] = a.val := by
  simp [digitsNumber]

theorem digitsNumber_concat (xs : List Digit) (a : Digit) :
    digitsNumber (xs ++ [a]) = digitsNumber xs * 10 + a.val := by
  simp [digitsNumber]

theorem digitsNumber_append (xs ys : List Digit) :
    digitsNumber (xs ++ ys) = digitsNumber xs * 10 ^ ys.length + digitsNumber ys := by
  induction ys using List.reverseRecOn with
  | nil => simp
  | append_singleton ys a ih =>
    rw [← List.append_assoc, digitsNumber_concat, digitsNumber_concat, ih, List.length_append, List.length_singleton]
    ring

theorem digitsNumber_pair (a b : Digit) : digitsNumber [a, b] = a.val * 10 + b.val := by
  simpa using digitsNumber_append [a] [b]

/-- A code's number is that of its first 22 digits, then its two check digits. -/
theorem digitsNumber_eq_front_check {u : List Digit} (hu : u.length = 24) :
    digitsNumber u = digitsNumber (u.take 22) * 100 + digitsNumber (u.drop 22) := by
  have hcheck : (u.drop 22).length = 2 := by simp [hu]
  simpa [hcheck] using digitsNumber_append (u.take 22) (u.drop 22)

/-! ### Right check digits (R68) -/

theorem checkRight_iff {u : List Digit} (hu : u.length = 24) :
    checkRight u = true ↔ digitsNumber (u.drop 22) = 98 - digitsNumber (u.take 22) * 100 % 97 := by
  have hcheck : (u.drop 22).take 2 = u.drop 22 := List.take_of_length_le (by simp [hu])
  simp [checkRight, digitField, hcheck]

theorem checkRight_iff_remainder {u : List Digit} (hu : u.length = 24) :
    checkRight u = true ↔
      digitsNumber u % 97 = 1 ∧ 2 ≤ digitsNumber (u.drop 22) ∧ digitsNumber (u.drop 22) ≤ 98 := by
  rw [checkRight_iff hu, digitsNumber_eq_front_check hu]
  omega

/-! ### Slips

97 is prime to 10, so a run of digits changed within a code moves the code's remainder as soon as its own moves. -/

/-- The digits around a run take no part in the comparison of remainders modulo 97. -/
theorem modEq_of_append_modEq {xs m m' ys : List Digit} (hm : m.length = m'.length)
    (h : digitsNumber (xs ++ m ++ ys) ≡ digitsNumber (xs ++ m' ++ ys) [MOD 97]) :
    digitsNumber m ≡ digitsNumber m' [MOD 97] := by
  simp only [digitsNumber_append, hm] at h
  have hcoprime : Nat.gcd 97 (10 ^ ys.length) = 1 := Nat.Coprime.pow_right _ (by norm_num)
  exact ((h.add_right_cancel' _).cancel_right_of_coprime hcoprime).add_left_cancel' _

/-- Replacing a run of digits of a right code by one of another remainder leaves a wrong code. -/
theorem checkRight_replaced_run_eq_false {xs m m' ys : List Digit} (hlen : (xs ++ m ++ ys).length = 24)
    (hm : m.length = m'.length) (hright : checkRight (xs ++ m ++ ys) = true)
    (hne : ¬ digitsNumber m ≡ digitsNumber m' [MOD 97]) : checkRight (xs ++ m' ++ ys) = false := by
  have hlen' : (xs ++ m' ++ ys).length = 24 := by simpa [hm] using hlen
  rw [← Bool.not_eq_true]
  intro hright'
  have hone := ((checkRight_iff_remainder hlen).1 hright).1
  have hone' := ((checkRight_iff_remainder hlen').1 hright').1
  exact hne (modEq_of_append_modEq hm (hone.trans hone'.symm))

/-- Two different digits differ by less than 97. -/
theorem digit_not_modEq {a x : Digit} (hax : a ≠ x) : ¬ digitsNumber [a] ≡ digitsNumber [x] [MOD 97] := by
  have hval : a.val ≠ x.val := Fin.val_ne_of_ne hax
  simp only [digitsNumber_singleton, Nat.ModEq]
  omega

/-- An exchange moves a pair's number by 9 times the difference of its digits, which is less than 97. -/
theorem exchange_not_modEq {a b : Digit} (hab : a ≠ b) :
    ¬ digitsNumber [a, b] ≡ digitsNumber [b, a] [MOD 97] := by
  have hval : a.val ≠ b.val := Fin.val_ne_of_ne hab
  simp only [digitsNumber_pair, Nat.ModEq]
  omega

theorem checkRight_set_eq_false {u : List Digit} (hu : u.length = 24) (hright : checkRight u = true) {i : Nat}
    (h : i < u.length) {x : Digit} (hx : u[i] ≠ x) : checkRight (u.set i x) = false := by
  have hsplit : u = u.take i ++ [u[i]] ++ u.drop (i + 1) := by simp
  have hset : u.set i x = u.take i ++ [x] ++ u.drop (i + 1) := by simp [List.set_eq_take_append_cons_drop, h]
  rw [hset]
  rw [hsplit] at hu hright
  exact checkRight_replaced_run_eq_false hu rfl hright (digit_not_modEq hx)

theorem checkRight_exchange_eq_false {u : List Digit} (hu : u.length = 24) (hright : checkRight u = true) {i : Nat}
    (h : i + 1 < u.length) (hne : u[i] ≠ u[i + 1]) :
    checkRight ((u.set i u[i + 1]).set (i + 1) u[i]) = false := by
  have hsplit : u = u.take i ++ [u[i], u[i + 1]] ++ u.drop (i + 2) := by simp
  have hexchange : (u.set i u[i + 1]).set (i + 1) u[i] = u.take i ++ [u[i + 1], u[i]] ++ u.drop (i + 2) := by
    rw [List.set_comm _ _ (by omega), List.set_eq_take_append_cons_drop, if_pos (by simp; omega)]
    simp [List.set_eq_take_append_cons_drop, List.take_append, List.take_take, h, h.le]
  rw [hexchange]
  rw [hsplit] at hu hright
  exact checkRight_replaced_run_eq_false hu rfl hright (exchange_not_modEq hne)

/-! ### Step 2 of the check (R75, R77) -/

/-- Step 1 of the check lets the unmasked digits pass: the part is IN_SERVICE, or it is in ACCOUNT_LOST and the class
is SERVICE_OPEN or TEST (R76). -/
def stepOnePasses (u : List Digit) (d : Device) : Prop :=
  d.power.part = .inService ∨ (d.power.part = .accountLost ∧ ∃ c ∈ u.head?, c = 5 ∨ c = 7)

/-- A code that passes step 1 goes on to steps 3 to 9 exactly when its check digits are right. -/
theorem judgeCode_of_stepOnePasses {code : List Digit} {d : Device} {store : OneTime} (hstore : d.oneTime = some store)
    (hpass : stepOnePasses (unmask code store.key) d) :
    judgeCode code d =
      if checkRight (unmask code store.key) then
        (judgeFields (fieldsOf (unmask code store.key)) d, some (fieldsOf (unmask code store.key)))
      else (.badCheck, none) := by
  rcases hpass with hpart | ⟨hpart, c, hc, hclass⟩
  · simp [judgeCode, hstore, hpart]
  · have hhead : (fieldsOf (unmask code store.key)).codeClass = c := by
      simp [fieldsOf, List.headD_eq_head?_getD, Option.mem_def.1 hc]
    rcases hclass with rfl | rfl <;> simp [judgeCode, hstore, hpart, hhead]

/-- Settles O21: both slips replace a run of digits by one of another remainder modulo 97, which 10 is prime to. -/
theorem checkDigitsCatchSlips : Obligations.CheckDigitsCatchSlips := by
  refine ⟨fun u hu => ⟨?front, ?remainder, ?digit, ?exchange⟩, ?judged⟩
  case front => exact checkRight_iff hu
  case remainder => exact checkRight_iff_remainder hu
  case digit => exact fun hright i h x hx => checkRight_set_eq_false hu hright h hx
  case exchange => exact fun hright i h hne => checkRight_exchange_eq_false hu hright h hne
  case judged =>
    intro code d store hstore hpass hwrong
    rw [judgeCode_of_stepOnePasses hstore hpass, if_neg (by simp [hwrong])]

end Sys2Proof.Machine
end

section
/-! PROOFS. The Event Log is never emptied (R155, R158): what each operation keeps of the log and of INITIALIZING. -/

namespace Sys2Proof.Machine

/-! ### The relation that every command but the end of INITIALIZING keeps -/

/-- From `d` to `e` a log that held a record still holds one, and INITIALIZING is not left. No other block is looked at,
so an update of another block is passed over by definition. -/
def LogKept (d e : Device) : Prop :=
  (d.log.records ≠ [] → e.log.records ≠ []) ∧ (d.power.part = .initializing → e.power.part = .initializing)

variable {d e f : Device}

theorem LogKept.refl (d : Device) : LogKept d d := ⟨id, id⟩

theorem LogKept.records_ne_nil (h : LogKept d e) (hd : d.log.records ≠ []) : e.log.records ≠ [] := h.1 hd

theorem LogKept.trans (h : LogKept d e) (k : LogKept e f) : LogKept d f := ⟨k.1 ∘ h.1, k.2 ∘ h.2⟩

theorem LogKept.ite {c : Prop} {_ : Decidable c} (he : LogKept d e) (hf : LogKept d f) :
    LogKept d (if c then e else f) := by
  split
  · exact he
  · exact hf

/-- A frame names neither the log nor the power. -/
def sparesLog (l : List Block) : Bool := !l.contains .log && !l.contains .power

/-- An operation whose frame names neither the log nor the power keeps both. -/
theorem LogKept.frame {l : List Block} (k : keepsBut l e f) (h : LogKept d e) (hl : sparesLog l = true) :
    LogKept d f := by
  simp only [sparesLog, Bool.and_eq_true, Bool.not_eq_true', List.contains_eq_mem, decide_eq_false_iff_not] at hl
  have samelog : f.log = e.log := k .log hl.1
  have samepower : f.power = e.power := k .power hl.2
  exact ⟨fun hd => samelog ▸ h.1 hd, fun hd => samepower ▸ h.2 hd⟩

theorem LogKept.foldl {α : Type} {op : Device → α → Device} (hop : ∀ e a, LogKept e (op e a)) (l : List α)
    (h : LogKept d e) : LogKept d (l.foldl op e) := by
  induction l generalizing e with
  | nil => exact h
  | cons a l ih => exact ih (h.trans (hop e a))

theorem LogKept.iterate {op : Device → Device} (hop : ∀ e, LogKept e (op e)) (n : Nat) (h : LogKept d e) :
    LogKept d (op^[n] e) := by
  induction n generalizing e with
  | zero => exact h
  | succ n ih => exact ih (h.trans (hop e))

/-! ### Notices, records and the display -/

theorem setLink_logKept {x : Link} (h : LogKept d e) : LogKept d (e.setLink x) := h

theorem raiseNotice_logKept {n : Notice} (h : LogKept d e) : LogKept d (raiseNotice n e) := h

/-- Room is made for a record only where the record then stands. -/
theorem addRecord_records_ne_nil {x : LogData} (h : d.log.next < Config.numberEnd ∨ d.log.records ≠ []) :
    (addRecord x d).log.records ≠ [] := by
  rcases Nat.lt_or_ge d.log.next Config.numberEnd with hroom | hexhausted
  · simp [addRecord_log hroom]
  · rw [addRecord_exhausted hexhausted]
    exact h.resolve_left (Nat.not_lt.mpr hexhausted)

theorem addRecord_logKept {x : LogData} (h : LogKept d e) : LogKept d (addRecord x e) := by
  refine ⟨fun hd => addRecord_records_ne_nil (.inr (h.1 hd)), ?part⟩
  unfold addRecord
  split
  · exact h.2
  · exact h.2

theorem noteDisplay_logKept {old : Device} (h : LogKept d e) : LogKept d (noteDisplay old e) :=
  .frame (noteDisplay_keeps old e) h rfl

/-! ### The relay -/

theorem enterRelay_logKept {st : RelayState} (h : LogKept d e) : LogKept d (enterRelay st e) :=
  raiseNotice_logKept (addRecord_logKept (.ite h h))

theorem reactToReasons_logKept (h : LogKept d e) : LogKept d (reactToReasons e) := by
  unfold reactToReasons
  refine .ite ?running h
  split
  · exact .ite h h
  · exact .ite (enterRelay_logKept h) h
  · exact .ite h (enterRelay_logKept h)
  · exact h

theorem setReasons_logKept {r : Reasons} (h : LogKept d e) : LogKept d (setReasons r e) :=
  .ite h (reactToReasons_logKept h)

theorem setReason_logKept {w : Reason} {p : Bool} (h : LogKept d e) : LogKept d (setReason w p e) :=
  setReasons_logKept h

theorem settle_logKept {p : Position} (h : LogKept d e) : LogKept d (settle p e) :=
  reactToReasons_logKept (enterRelay_logKept h)

theorem goStuck_logKept {c : FaultCause} {p : Position} (h : LogKept d e) : LogKept d (goStuck c p e) :=
  enterRelay_logKept (addRecord_logKept h)

theorem auxInOperation_logKept {p : Position} {a : Attempt} (h : LogKept d e) : LogKept d (auxInOperation p a e) :=
  .ite (.ite (settle_logKept h) (.ite (.ite h (settle_logKept h)) h)) h

theorem auxChanged_logKept {before : Option Position} (h : LogKept d e) : LogKept d (auxChanged before e) := by
  unfold auxChanged
  refine .ite h ?changed
  split
  · exact auxInOperation_logKept h
  · exact auxInOperation_logKept h
  · exact .ite (settle_logKept h) h
  · exact h

theorem reconnectPress_logKept (h : LogKept d e) : LogKept d (reconnectPress e) := .frame (reconnectPress_keeps e) h rfl

theorem resolveRelay_logKept (h : LogKept d e) : LogKept d (resolveRelay e) := by
  unfold resolveRelay
  split
  · exact .ite (settle_logKept h) h
  · exact settle_logKept h

theorem endDrive_logKept {p : Position} {a : Attempt} (h : LogKept d e) : LogKept d (endDrive p a e) :=
  .ite (settle_logKept h) h

theorem endConfirmation_logKept {p : Position} {a : Attempt} (h : LogKept d e) :
    LogKept d (endConfirmation p a e) :=
  .ite (goStuck_logKept h) (.ite h h)

theorem endRetry_logKept {p : Position} (h : LogKept d e) : LogKept d (endRetry p e) := .ite h h

/-! ### Tamper and the sense lines -/

theorem evaluateTamper_logKept (h : LogKept d e) : LogKept d (evaluateTamper e) := setReason_logKept h

theorem detect_logKept {s : Source} {x : Option Byte} (h : LogKept d e) : LogKept d (detect s x e) := by
  have latched : LogKept d (latchSource s x e) :=
    evaluateTamper_logKept (raiseNotice_logKept (.frame (setSource_keeps _ _ _) (addRecord_logKept h) rfl))
  exact .ite (addRecord_logKept h) (.ite h latched)

theorem clearTamper_logKept {p : Nat} (h : LogKept d e) : LogKept d (clearTamper p e) :=
  .ite h (evaluateTamper_logKept (raiseNotice_logKept (addRecord_logKept (.frame (unlatchAll_keeps _ _) h rfl))))

theorem functionDetected_logKept {g : LineFunction} (h : LogKept d e) : LogKept d (functionDetected g e) := by
  unfold functionDetected
  split
  · exact .ite h (detect_logKept h)
  · exact h

theorem handFunction_logKept {g : LineFunction} {before : Device} (h : LogKept d e) :
    LogKept d (handFunction g before e) := by
  unfold handFunction
  split
  · exact h
  · exact auxChanged_logKept h
  · exact .ite (reconnectPress_logKept h) h
  · exact .ite (functionDetected_logKept h) h

theorem changeLine_logKept {l : Line} {level : Level} (h : LogKept d e) : LogKept d (changeLine l level e) :=
  .ite h (.ite h h)

theorem expireLine_logKept {l : Line} (h : LogKept d e) : LogKept d (expireLine l e) :=
  .ite (handFunction_logKept h) h

/-! ### The account -/

theorem recomputeCreditState_logKept (h : LogKept d e) : LogKept d (recomputeCreditState e) :=
  .ite h (raiseNotice_logKept (addRecord_logKept h))

theorem recomputeCreditReason_logKept (h : LogKept d e) : LogKept d (recomputeCreditReason e) :=
  .ite h (setReason_logKept h)

theorem recomputeCredit_logKept (h : LogKept d e) : LogKept d (recomputeCredit e) :=
  recomputeCreditReason_logKept (recomputeCreditState_logKept h)

theorem handAccountReasons_logKept (h : LogKept d e) : LogKept d (handAccountReasons e) :=
  .ite (setReasons_logKept h) (raiseNotice_logKept (setReasons_logKept h))

theorem recordDiscard_logKept {n : Nat} {w : DebitReason} (h : LogKept d e) : LogKept d (recordDiscard n w e) :=
  .ite (addRecord_logKept h) h

theorem debit_logKept {k : Nat} {w : DebitReason} (h : LogKept d e) : LogKept d (debit k w e) :=
  .ite h (recomputeCredit_logKept (recordDiscard_logKept h))

theorem topUp_logKept {n : Nat} (h : LogKept d e) : LogKept d (topUp n e) := recomputeCredit_logKept h

theorem emergencyTake_logKept (h : LogKept d e) : LogKept d (emergencyTake e) :=
  recomputeCredit_logKept (addRecord_logKept h)

theorem debtSet_logKept {v p : Nat} (h : LogKept d e) : LogKept d (debtSet v p e) := recordDiscard_logKept h

theorem clearAccount_logKept (h : LogKept d e) : LogKept d (clearAccount e) :=
  raiseNotice_logKept
    (recomputeCredit_logKept
      (.frame (setResidue_keeps _ _) (.frame (setAccount_keeps _ _) (addRecord_logKept h) rfl) rfl))

/-! ### Time, tariffs, load, meter test -/

theorem dayProcessing_logKept (h : LogKept d e) : LogKept d (dayProcessing e) := by
  unfold dayProcessing
  split
  case h_2 => exact h
  case h_1 last _ _ =>
    have charged : LogKept d
        ((debit e.tariffs.active.standing .standing)^[min (e.clock.now.day - last) Config.chargedDays] e) :=
      .iterate (fun x => debit_logKept (.refl x)) _ h
    exact .ite h
      (.frame (setClock_keeps _ _) (.frame (setIntake_keeps _ _) (.ite (addRecord_logKept charged) charged) rfl) rfl)

theorem activationTest_logKept (h : LogKept d e) : LogKept d (activationTest e) := by
  unfold activationTest
  split
  · exact .ite (raiseNotice_logKept (addRecord_logKept h)) h
  · exact h

theorem confirmTariff_logKept (h : LogKept d e) : LogKept d (confirmTariff e) := by
  unfold confirmTariff
  split
  · exact h
  · exact activationTest_logKept h

theorem zeroDemand_logKept (h : LogKept d e) : LogKept d (zeroDemand e) := h

theorem loadTrip_logKept (h : LogKept d e) : LogKept d (loadTrip e) :=
  zeroDemand_logKept (.frame (setLoad_keeps _ _) (addRecord_logKept (setReason_logKept h)) rfl)

theorem slotStep_logKept (h : LogKept d e) : LogKept d (slotStep e) :=
  .frame (setLoad_keeps _ _) (.ite (loadTrip_logKept h) h) rfl

theorem writeLimit_logKept {w : Nat} (h : LogKept d e) : LogKept d (writeLimit w e) := .ite h (setReason_logKept h)

theorem endTest_logKept {c : TestCause} (h : LogKept d e) : LogKept d (endTest c e) := .ite (addRecord_logKept h) h

theorem closeWindow_logKept (h : LogKept d e) : LogKept d (closeWindow e) := endTest_logKept h

theorem serviceOpen_logKept {m : Nat} (h : LogKept d e) : LogKept d (serviceOpen m e) :=
  .ite h (.ite (closeWindow_logKept h) h)

theorem applySetTime_logKept {t : MeterTime} (h : LogKept d e) : LogKept d (applySetTime t e) := by
  have cleared : LogKept d
      (zeroDemand (addRecord (.timeSet (timeMark e) t) (e.setClock { e.clock with now := t, isSet := true }))) :=
    zeroDemand_logKept (addRecord_logKept h)
  unfold applySetTime
  refine recomputeCreditReason_logKept (activationTest_logKept ?processed)
  dsimp only
  split
  · exact .frame (setClock_keeps _ _) cleared rfl
  · exact dayProcessing_logKept cleared

/-! ### Pulses -/

theorem chargeQuantum_logKept {price : Nat} (h : LogKept d e) : LogKept d (chargeQuantum price e) := debit_logKept h

theorem countOpenEnergy_logKept (h : LogKept d e) : LogKept d (countOpenEnergy e) := .ite h (.ite (detect_logKept h) h)

theorem chargingRouting_logKept {openFirst : Bool} (h : LogKept d e) : LogKept d (chargingRouting openFirst e) := by
  have measure {x : Device} (hx : LogKept d x) (band price : Nat) :
      LogKept d (countDemand (chargeQuantum price (countEnergy band x))) :=
    .frame (countDemand_keeps _) (chargeQuantum_logKept hx) rfl
  have watch {x : Device} (hx : LogKept d x) : LogKept d (if e.relay.state = .closed then x else countOpenEnergy x) :=
    .ite hx (countOpenEnergy_logKept hx)
  exact .ite (measure (watch h) _ _) (watch (measure h _ _))

theorem reverseRouting_logKept (h : LogKept d e) : LogKept d (reverseRouting e) := .ite (detect_logKept h) h

theorem routeQuantum_logKept {p : Phase} {direction : Level} {openFirst : Bool} (h : LogKept d e) :
    LogKept d (routeQuantum p direction openFirst e) := by
  have tested : LogKept d (testRouting p direction e) := by cases direction <;> exact h
  refine .ite tested ?routed
  split
  · exact chargingRouting_logKept h
  · exact reverseRouting_logKept h

/-! ### Codes -/

theorem keypadOutcome_logKept {r : Result} (h : LogKept d e) : LogKept d (keypadOutcome r e) := by
  unfold keypadOutcome
  dsimp only
  split
  · exact .ite (addRecord_logKept h) h
  · exact h
  · exact h

theorem reportOutcome_logKept {c : QueuedCode} {r : Result} {x : Option (Digit × Nat)} (h : LogKept d e) :
    LogKept d (reportOutcome c r x e) := by
  unfold reportOutcome
  dsimp only
  split
  · exact keypadOutcome_logKept h
  · exact raiseNotice_logKept h
  · exact h

theorem abortCodes_logKept (h : LogKept d e) : LogKept d (abortCodes e) :=
  .foldl (fun x _ => reportOutcome_logKept (.refl x)) _ (.frame (setCodes_keeps e _) h rfl)

theorem enqueueCode_logKept {c : CodeSource} {g : List Digit} (h : LogKept d e) : LogKept d (enqueueCode c g e) :=
  .frame (enqueueCode_keeps c g e) h rfl

theorem classEffect_logKept {c : CodeFields} (h : LogKept d e) : LogKept d (classEffect c e) := by
  unfold classEffect
  split
  · exact topUp_logKept h
  · exact debtSet_logKept h
  · exact clearTamper_logKept h
  · exact writeLimit_logKept h
  · exact confirmTariff_logKept h
  · exact serviceOpen_logKept h
  · exact clearAccount_logKept h
  · exact h

theorem acceptCode_logKept {c : CodeFields} (h : LogKept d e) : LogKept d (acceptCode c e) :=
  addRecord_logKept (.ite (classEffect_logKept h) (.frame (listCode_keeps _ _) (classEffect_logKept h) rfl))

theorem completeCheck_logKept {c : QueuedCode} (h : LogKept d e) : LogKept d (completeCheck c e) := by
  unfold completeCheck
  refine .frame (startCheck_keeps _) (reportOutcome_logKept ?done) rfl
  dsimp only
  split
  · exact .ite h (acceptCode_logKept h)
  · exact h

/-! ### The second tick -/

theorem countSecond_logKept (h : LogKept d e) : LogKept d (countSecond e) := by
  have tested : LogKept d
      (if e.intake.testActive then
          (e.setClock { e.clock with now := advanceTime e.clock.now }).setIntake
            { e.intake with testTimer := e.intake.testTimer + 1 }
        else e.setClock { e.clock with now := advanceTime e.clock.now }) := .ite h h
  exact .frame (setLoad_keeps _ _)
    (.frame (setKeypad_keeps _ _) (.ite (setLink_logKept tested) tested) rfl) rfl

theorem windowMinute_logKept (h : LogKept d e) : LogKept d (windowMinute e) :=
  .ite h (.ite (closeWindow_logKept h) h)

theorem minuteStep_logKept {day : Bool} (h : LogKept d e) : LogKept d (minuteStep day e) := by
  have processed {c : Prop} {_ : Decidable c} : LogKept d (if c then dayProcessing e else e) :=
    .ite (dayProcessing_logKept h) h
  exact .frame (setKeypad_keeps _ _)
    (windowMinute_logKept (recomputeCreditReason_logKept (.ite (activationTest_logKept processed) processed))) rfl

theorem tickPart_logKept {before : Device} {p : TickPart} (h : LogKept d e) : LogKept d (tickPart before p e) := by
  cases p with
  | boundary => exact .ite (minuteStep_logKept h) h
  | slot => exact .ite (slotStep_logKept h) h
  | backoff => exact .ite (setReason_logKept h) h
  | test => exact .ite (endTest_logKept h) h
  | presence => exact .ite (.ite (detect_logKept h) h) h

theorem secondStep_logKept {order : List TickPart} (h : LogKept d e) : LogKept d (secondStep order e) :=
  .ite
    (.foldl (fun x _ => noteDisplay_logKept (tickPart_logKept (.refl x))) _
      (noteDisplay_logKept (countSecond_logKept h)))
    h

/-! ### The customer link -/

theorem enterAction_logKept (h : LogKept d e) : LogKept d (enterAction e) := by
  have taken : LogKept d (enterEmergency e) := .frame (setKeypad_keeps _ _) (.ite (emergencyTake_logKept h) h) rfl
  have submitted : LogKept d (enterCode e) := .frame (setKeypad_keeps _ _) (.ite (enqueueCode_logKept h) h) rfl
  exact .ite taken (.ite (.ite h submitted) (.ite h h))

theorem presenceAction_logKept {caseOpen : Bool} {version : Byte} (h : LogKept d e) :
    LogKept d (presenceAction caseOpen version e) := .ite (detect_logKept h) h

theorem digitAction_logKept {digit : Digit} (h : LogKept d e) : LogKept d (digitAction digit e) := .ite h h

theorem emergencyAction_logKept (h : LogKept d e) : LogKept d (emergencyAction e) := .ite h h

theorem keyAction_logKept {key : Byte} (h : LogKept d e) : LogKept d (keyAction key e) := by
  unfold keyAction
  split
  · exact digitAction_logKept h
  repeat' split
  · exact h
  · exact enterAction_logKept h
  · exact emergencyAction_logKept h
  · exact reconnectPress_logKept h
  · exact h
  · exact h

theorem frameAction_logKept {kind : Byte} {payload : List Byte} (h : LogKept d e) :
    LogKept d (frameAction kind payload e) := by
  unfold frameAction
  repeat' split
  · exact keyAction_logKept h
  · exact h
  · exact presenceAction_logKept h
  · exact presenceAction_logKept h
  · exact h
  · exact h

theorem linkArrival_logKept {kind : Byte} {payload : List Byte} {act : Device → Device}
    (hact : ∀ x, LogKept x (act x)) (h : LogKept d e) : LogKept d (linkArrival kind payload act e) :=
  .ite (h.trans (hact (frameSeen e))) h

theorem linkCharacter_logKept {c : Byte} (h : LogKept d e) : LogKept d (linkCharacter c e) := by
  unfold linkCharacter
  refine .ite ?running h
  split
  · exact h
  · exact h
  · exact frameAction_logKept h

end Sys2Proof.Machine
end

section
/-! PROOFS. Every command but the end of INITIALIZING keeps the log from being emptied; the end of INITIALIZING leaves a
record where it found one, and where it found the retained store lost (R155, R158, R187, R188). -/

namespace Sys2Proof.Machine

variable {d e : Device}

/-! ### Requests of both ports -/

/-- A handler keeps the log from being emptied, whatever it answers. -/
def HandlerLogKept {α : Type} (h : Device → Device × α) : Prop := ∀ e, LogKept e (h e).1

theorem noParameters_logKept {p : List Byte} {h : Handler} (hh : HandlerLogKept h) :
    HandlerLogKept (noParameters p h) := by
  intro e
  unfold noParameters
  split
  · exact hh e
  · exact .refl e

theorem reading_logKept {data : Device → List Byte} : HandlerLogKept (reading data) := LogKept.refl

theorem putTariff_logKept {p : List Byte} : HandlerLogKept (putTariff p) := by
  intro e
  unfold putTariff
  repeat' split
  all_goals exact LogKept.refl e

theorem cancelPending_logKept : HandlerLogKept cancelPending := by
  intro e
  unfold cancelPending
  split
  all_goals exact LogKept.refl e

theorem submitPort_logKept {source : CodeSource} {p : List Byte} : HandlerLogKept (submitPort source p) := by
  intro e
  unfold submitPort
  split
  case h_1 => exact .refl e
  case h_2 =>
    split
    · exact .refl e
    · exact enqueueCode_logKept (.refl e)

theorem setMark_logKept {m : Option Nat} (h : LogKept d e) : LogKept d (e.setLog { e.log with mark := m }) := h

theorem restart_logKept (h : LogKept d e) : LogKept d (restart e) := by
  have cleared {k : Keypad} : LogKept d (zeroDemand ((abortCodes (endTest .restart e)).setKeypad k)) :=
    zeroDemand_logKept (.frame (setKeypad_keeps _ _) (abortCodes_logKept (endTest_logKept h)) rfl)
  exact .frame (setHost_keeps _ _) (setMark_logKept (setLink_logKept cleared)) rfl

/-! ### Requests of the meter host port -/

theorem hostServe_logKept {p : List Byte} {h : Handler} (hh : HandlerLogKept h) : LogKept e (hostServe p h e) :=
  .ite (.ite (.frame (setHost_keeps _ _) (hh e) rfl) (.refl e)) (.refl e)

theorem getTariffHandler_logKept {p : List Byte} : HandlerLogKept (getTariffHandler p) := by
  intro e
  unfold getTariffHandler
  repeat' split
  all_goals exact LogKept.refl e

theorem codeResultHandler_logKept : HandlerLogKept codeResultHandler := LogKept.refl

theorem hostTimeHandler_logKept {p : List Byte} : HandlerLogKept (hostTimeHandler p) := by
  intro e
  unfold hostTimeHandler
  split
  case h_1 => exact .refl e
  case h_2 t _ =>
    split
    · exact .refl e
    · have moved : LogKept e (applySetTime (hostNewTime t e) e) := applySetTime_logKept (.refl e)
      exact .ite (raiseNotice_logKept moved) moved

theorem remoteHandler_logKept {hold : Bool} : HandlerLogKept (remoteHandler hold) :=
  fun e => setReason_logKept (.refl e)

theorem metrologyHandler_logKept {p : List Byte} : HandlerLogKept (metrologyHandler p) := by
  intro e
  unfold metrologyHandler
  split
  · exact detect_logKept (.refl e)
  · exact .refl e

theorem moveHostCursor_logKept {number : Nat} (h : LogKept d e) : LogKept d (moveHostCursor number e).1 := h

theorem hostLogHandler_logKept : HandlerLogKept hostLogHandler := LogKept.refl

theorem markHandler_logKept : HandlerLogKept markHandler := LogKept.refl

theorem returnHandler_logKept : HandlerLogKept returnHandler := by
  intro e
  unfold returnHandler
  split
  · exact .refl e
  · exact moveHostCursor_logKept (.refl e)

theorem noticesHandler_logKept : HandlerLogKept noticesHandler := LogKept.refl

theorem enableHandler_logKept {p : List Byte} : HandlerLogKept (enableHandler p) := by
  intro e
  unfold enableHandler
  split
  all_goals exact LogKept.refl e

/-! ### Requests of the service port -/

theorem answering_logKept {h : Handler} (hh : HandlerLogKept h) : HandlerLogKept (answering h) := hh

theorem changing_logKept {h : Handler} (hh : HandlerLogKept h) : HandlerLogKept (changing h) := by
  intro e
  unfold changing
  split
  · exact .refl e
  · exact hh e

theorem pagedRead_logKept {p : List Byte} {fields : Device → List (List Byte)} :
    HandlerLogKept (pagedRead p fields) := by
  intro e
  unfold pagedRead
  repeat' split
  all_goals exact LogKept.refl e

theorem readTariffHandler_logKept {p : List Byte} : HandlerLogKept (readTariffHandler p) := by
  intro e
  unfold readTariffHandler
  repeat' split
  all_goals exact LogKept.refl e

theorem serviceLogHandler_logKept : HandlerLogKept serviceLogHandler := LogKept.refl

theorem moveServiceCursor_logKept {number : Nat} (h : LogKept d e) : LogKept d (moveServiceCursor number e).1 := h

theorem commissionHandler_logKept {p : List Byte} : HandlerLogKept (commissionHandler p) := by
  intro e
  unfold commissionHandler
  repeat' split
  all_goals exact LogKept.refl e

theorem configEffect_logKept {w : ConfigWrite} (h : LogKept d e) : LogKept d (configEffect w e) := by
  cases w with
  | lowLevel => exact recomputeCredit_logKept h
  | friendlyFloor => exact recomputeCreditReason_logKept h
  | friendlyWindow => exact recomputeCreditReason_logKept h
  | loadLimit => exact writeLimit_logKept h
  | sourceAction => exact .ite (evaluateTamper_logKept h) h
  | emergencyAmount | emergencyThreshold | codeValidityDays | linkRate | bypassThreshold | reverseThreshold => exact h

theorem configHandler_logKept {p : List Byte} : HandlerLogKept (configHandler p) := by
  intro e
  unfold configHandler
  split
  · exact .refl e
  · exact configEffect_logKept (addRecord_logKept (.refl e))

theorem tableHandler_logKept {p : List Byte} : HandlerLogKept (tableHandler p) := by
  intro e
  have written (l : Line) (x : LineEntry) : LogKept e (writeTable l x e) := auxChanged_logKept (.refl e)
  unfold tableHandler
  repeat' split
  · exact written _ _
  all_goals exact LogKept.refl e

theorem serviceTimeHandler_logKept {p : List Byte} : HandlerLogKept (serviceTimeHandler p) := by
  intro e
  unfold serviceTimeHandler
  repeat' split
  · exact .refl e
  · exact .refl e
  · exact applySetTime_logKept (.refl e)

theorem noticeTariff_logKept {h : Handler} (hh : HandlerLogKept h) : HandlerLogKept (noticeTariff h) := by
  intro e
  unfold noticeTariff
  split
  · exact raiseNotice_logKept (hh e)
  · exact hh e

theorem holdHandler_logKept {hold : Bool} : HandlerLogKept (holdHandler hold) := fun e => setReason_logKept (.refl e)

theorem retryHandler_logKept : HandlerLogKept retryHandler := by
  intro e
  unfold retryHandler
  dsimp only
  split
  all_goals exact LogKept.refl e

theorem testStartHandler_logKept : HandlerLogKept testStartHandler := by
  intro e
  unfold testStartHandler
  split
  · exact .frame (setIntake_keeps _ _) (endTest_logKept (.refl e)) rfl
  · exact .refl e
  · exact .refl e

theorem testEndHandler_logKept : HandlerLogKept testEndHandler := fun e => endTest_logKept (.refl e)

/-- The two commands that put a part into service find it outside INITIALIZING. -/
theorem setPower_logKept {x : Power} (h : e.power.part ≠ .initializing) : LogKept e (e.setPower x) :=
  ⟨id, fun hinit => absurd hinit h⟩

theorem restoreHandler_logKept {p : List Byte} : HandlerLogKept (restoreHandler p) := by
  intro e
  unfold restoreHandler
  split
  case h_1 => exact .refl e
  case h_2 r _ =>
    split
    case isFalse => exact .refl e
    case isTrue hlost =>
      have served : LogKept e (e.setPower { e.power with part := .inService }) :=
        setPower_logKept (hlost.trans_ne nofun)
      exact handAccountReasons_logKept (recomputeCreditState_logKept (addRecord_logKept served))

theorem clearCountsHandler_logKept : HandlerLogKept clearCountsHandler := LogKept.refl

/-- Every request of Table 10-2 keeps the log from being emptied. -/
theorem serviceHandler_logKept (code : Nat) {p : List Byte} {h : LateHandler}
    (hcode : serviceHandler code p = some h) : HandlerLogKept h := by
  unfold serviceHandler at hcode
  split at hcode <;> cases hcode
  · exact answering_logKept pagedRead_logKept
  · exact answering_logKept (noParameters_logKept reading_logKept)
  · exact answering_logKept readTariffHandler_logKept
  · exact answering_logKept pagedRead_logKept
  · exact answering_logKept pagedRead_logKept
  · exact answering_logKept (noParameters_logKept reading_logKept)
  · exact answering_logKept (noParameters_logKept reading_logKept)
  · exact answering_logKept pagedRead_logKept
  · exact answering_logKept (noParameters_logKept reading_logKept)
  · exact answering_logKept (noParameters_logKept serviceLogHandler_logKept)
  · exact answering_logKept (noParameters_logKept fun e => moveServiceCursor_logKept (.refl e))
  · exact answering_logKept (noParameters_logKept fun e => moveServiceCursor_logKept (.refl e))
  · exact answering_logKept submitPort_logKept
  · exact commissionHandler_logKept
  · exact answering_logKept (changing_logKept configHandler_logKept)
  · exact answering_logKept (changing_logKept tableHandler_logKept)
  · exact answering_logKept (changing_logKept serviceTimeHandler_logKept)
  · exact answering_logKept (changing_logKept (noticeTariff_logKept putTariff_logKept))
  · exact answering_logKept (changing_logKept (noticeTariff_logKept (noParameters_logKept cancelPending_logKept)))
  · exact answering_logKept (changing_logKept (noParameters_logKept holdHandler_logKept))
  · exact answering_logKept (changing_logKept (noParameters_logKept holdHandler_logKept))
  · exact answering_logKept (changing_logKept (noParameters_logKept retryHandler_logKept))
  · exact answering_logKept (changing_logKept (noParameters_logKept testStartHandler_logKept))
  · exact answering_logKept (changing_logKept (noParameters_logKept testEndHandler_logKept))
  · exact answering_logKept (changing_logKept restoreHandler_logKept)
  · exact answering_logKept (changing_logKept (noParameters_logKept clearCountsHandler_logKept))
  · exact answering_logKept (changing_logKept (noParameters_logKept fun e => restart_logKept (.refl e)))

theorem replyWith_logKept {code : Byte} {a : Option Answer} (h : LogKept d e) : LogKept d (replyWith code a e) := by
  cases a <;> exact h

theorem serviceServe_logKept {code : Byte} {p : List Byte} {h : LateHandler} (hh : HandlerLogKept h)
    (hd : LogKept d e) : LogKept d (serviceServe code p h e) :=
  .ite (.ite hd (.ite (replyWith_logKept hd) (replyWith_logKept (hd.trans (hh (huntService e)))))) hd

theorem unknownRequest_logKept : HandlerLogKept (answering fun d => (d, refusal .unknownRequest)) := LogKept.refl

theorem serviceFrame_logKept {kind : Byte} {payload : List Byte} (h : LogKept d e) :
    LogKept d (serviceFrame kind payload e) := by
  unfold serviceFrame
  cases hcode : serviceHandler kind.toNat payload with
  | none => exact serviceServe_logKept unknownRequest_logKept h
  | some handler => exact serviceServe_logKept (serviceHandler_logKept _ hcode) h

theorem serviceCharacter_logKept {c : Byte} (h : LogKept d e) : LogKept d (serviceCharacter c e) := by
  unfold serviceCharacter
  refine .ite ?running h
  split
  · exact h
  · exact h
  · exact serviceFrame_logKept h

theorem completeCommission_logKept {store : OneTime} (h : e.power.part = .uncommissioned) :
    LogKept e (completeCommission store e) := by
  have served : LogKept e (e.setPower { e.power with part := .inService }) := setPower_logKept (h.trans_ne nofun)
  have account : LogKept e
      (recomputeCreditState (((e.setOneTime (some store)).setPower { e.power with part := .inService }).setAccount
        (commissionedAccount e.account))) := recomputeCreditState_logKept served
  exact .frame (setService_keeps _ _) (handAccountReasons_logKept (.frame (setCodes_keeps _ _) account rfl)) rfl

/-! ### Power -/

theorem loseMains_logKept (h : LogKept d e) : LogKept d (loseMains e) := by
  have aborted : LogKept d (abortCodes (endTest .mainsLoss (addRecord .powerFail (setSupply .battery e)))) :=
    abortCodes_logKept (endTest_logKept (addRecord_logKept h))
  exact .frame (stopMainsLines_keeps _)
    (zeroDemand_logKept (.frame (abandonOperation_keeps _) (.frame (setService_keeps _ _)
      (.frame (stopHost_keeps _) (setLink_logKept (.frame (setKeypad_keeps _ _) aborted rfl)) rfl) rfl) rfl)) rfl

theorem startPorts_logKept {strap : Level} (h : LogKept d e) : LogKept d (startPorts strap e) := h

theorem setSupply_logKept {x : Supply} (h : LogKept d e) : LogKept d (setSupply x e) := h

theorem setInitTiming_logKept {x : Bool} (h : LogKept d e) : LogKept d (setInitTiming x e) := h

theorem returnMains_logKept {strap : Level} (h : LogKept d e) : LogKept d (returnMains strap e) :=
  startPorts_logKept (resolveRelay_logKept
    (setSupply_logKept (dayProcessing_logKept (.frame (rearmLines_keeps _ _) (addRecord_logKept h) rfl))))

/-- INITIALIZING begins with the log as it stands (R186). -/
theorem enterInitializing_logKept (h : LogKept d e) : LogKept d (enterInitializing e) := ⟨h.1, fun _ => rfl⟩

theorem assertReset_logKept (h : LogKept d e) : LogKept d (assertReset e) :=
  .ite h (.ite (enterInitializing_logKept h) (enterInitializing_logKept (abortCodes_logKept (endTest_logKept h))))

theorem releaseReset_logKept (h : LogKept d e) : LogKept d (releaseReset e) := .ite h h

theorem changeInitMains_logKept {level : Level} (h : LogKept d e) : LogKept d (changeInitMains level e) := by
  cases level <;> exact h

theorem loseSupply_logKept (h : LogKept d e) : LogKept d (loseSupply e) := enterInitializing_logKept h

theorem gainSupply_logKept {level : Level} {r : Bool} (h : LogKept d e) : LogKept d (gainSupply level r e) := h

/-! ### The end of INITIALIZING -/

/-- The retained check leaves a record: those held where the store is intact, the ACCOUNT_LOST record where it is lost,
the numbering having begun again (R187, R188). -/
theorem verifyStore_records_ne_nil (h : d.log.records ≠ [] ∨ d.power.storeIntact = false) :
    (verifyStore d).log.records ≠ [] := by
  unfold verifyStore
  split
  case isTrue hintact => exact h.resolve_right (hintact.trans_ne nofun)
  case isFalse => exact addRecord_records_ne_nil (d := retainedLoss d) (.inl (Nat.zero_lt_succ _))

theorem rearmStart_logKept {intact : Bool} {first : List Source} (h : LogKept d e) :
    LogKept d (rearmStart intact first e) :=
  .ite (.foldl (fun x _ => detect_logKept (.refl x)) _ (.frame (rearmLines_keeps _ _) h rfl)) h

theorem handStart_logKept (h : LogKept d e) : LogKept d (handStart e) := by
  have handed : LogKept d (evaluateTamper (handAccountReasons e)) :=
    evaluateTamper_logKept (handAccountReasons_logKept h)
  exact .ite (raiseNotice_logKept handed) handed

theorem processStart_logKept (h : LogKept d e) : LogKept d (processStart e) :=
  .ite (activationTest_logKept (dayProcessing_logKept h)) h

theorem endInitializing_records_ne_nil {strap : Level} {first : List Source}
    (h : d.log.records ≠ [] ∨ d.power.storeIntact = false) :
    (endInitializing strap first d).log.records ≠ [] := by
  refine LogKept.records_ne_nil
    (d := setPart (chosenPart d.power.storeIntact d.oneTime)
      (verifyStore (d.setHost { d.host with notices := noticeSet .restarted }))) ?kept ?held
  case kept =>
    exact setInitTiming_logKept (startPorts_logKept (resolveRelay_logKept
      (processStart_logKept (handStart_logKept (rearmStart_logKept (.refl _))))))
  case held => exact verifyStore_records_ne_nil (d := d.setHost { d.host with notices := noticeSet .restarted }) h

/-! ### Every command -/

/-- A command that is one whole event keeps the log from being emptied where its operation does. -/
theorem logKept_of_takeEvent {s t : State} {f : Device → Device} (ht : takeEvent s f = .next t)
    (hf : LogKept s.device (f s.device)) : LogKept s.device t.device := by
  cases ht
  exact noteDisplay_logKept hf

theorem exec_logKept {i : Instr} (hi : ∀ strap first, i ≠ .endOfInitializing strap first) {s t : State}
    (ht : exec i s = .next t) : LogKept s.device t.device := by
  have h : LogKept s.device s.device := .refl s.device
  cases i with
  -- Pulse Intake (chapter 1)
  | pulseLineFall p => exact logKept_of_takeEvent ht h
  | pulseFilterExpiry p => exact logKept_of_takeEvent ht (.ite h h)
  | pulseArrival p direction openFirst => exact logKept_of_takeEvent ht (.ite (routeQuantum_logKept h) h)
  | pulseGlitch p => exact logKept_of_takeEvent (show execPulseGlitch p s = _ from ht) (.ite h h)
  -- the second tick, and the commands that name what it brings about
  | secondTick first => exact logKept_of_takeEvent ht (secondStep_logKept h)
  | minuteBoundary | dayBoundary | slotBoundary | backoffExpiry | testExpiry | serviceWindowExpiry | lockoutExpiry
  | stepExpiry | inactivityExpiry | presenceExpiry => exact logKept_of_takeEvent ht (.ite (secondStep_logKept h) h)
  -- the customer link (chapter 5)
  | linkDamagedCharacter error => cases error <;> exact logKept_of_takeEvent ht (.ite h h)
  | linkGapExpiry | linkBadFrameCheck => exact logKept_of_takeEvent ht (.ite h h)
  | linkGoodCharacter c => exact logKept_of_takeEvent ht (linkCharacter_logKept h)
  | digitKey digit =>
    exact logKept_of_takeEvent ht (linkArrival_logKept (fun x => digitAction_logKept (.refl x)) h)
  | backKey | infoKey => exact logKept_of_takeEvent ht (linkArrival_logKept LogKept.refl h)
  | enterKey => exact logKept_of_takeEvent ht (linkArrival_logKept (fun x => enterAction_logKept (.refl x)) h)
  | emergencyKey =>
    exact logKept_of_takeEvent ht (linkArrival_logKept (fun x => emergencyAction_logKept (.refl x)) h)
  | reconnectKey => exact logKept_of_takeEvent ht (linkArrival_logKept (fun x => reconnectPress_logKept (.refl x)) h)
  | presenceFrame caseOpen version =>
    exact logKept_of_takeEvent ht (linkArrival_logKept (fun x => presenceAction_logKept (.refl x)) h)
  | linkOtherFrame kind payload =>
    exact logKept_of_takeEvent ht (linkArrival_logKept (fun x => frameAction_logKept (.refl x)) h)
  | statusPeriodExpiry | statusTransmitStart => exact logKept_of_takeEvent ht (.ite h h)
  | statusFrameEnd => exact logKept_of_takeEvent ht (.ite (.ite h h) h)
  -- the Relay Controller (chapter 6) and the sense lines (section 7.1)
  | driveCompletion =>
    refine logKept_of_takeEvent (show execDriveCompletion s = _ from ht) ?_
    split
    · exact .ite (endDrive_logKept h) h
    · exact h
  | confirmationExpiry =>
    refine logKept_of_takeEvent (show execConfirmationExpiry s = _ from ht) ?_
    split
    · exact .ite h (endConfirmation_logKept h)
    · exact h
  | retryExpiry =>
    refine logKept_of_takeEvent (show execRetryExpiry s = _ from ht) ?_
    split
    · exact .ite (endRetry_logKept h) h
    · exact h
  | positionWatchExpiry =>
    refine logKept_of_takeEvent ht (.ite ?_ h)
    split
    · exact goStuck_logKept h
    · exact h
  | senseLineChange line level => exact logKept_of_takeEvent ht (changeLine_logKept h)
  | senseFilterExpiry line => exact logKept_of_takeEvent ht (expireLine_logKept h)
  | checkCompletion =>
    refine logKept_of_takeEvent (show execCheckCompletion s = _ from ht) ?_
    split
    · exact completeCheck_logKept h
    · exact h
  -- the meter host port (chapter 9)
  | getStatus p | getAccount p | getDemand p | getTamper p | getRelayFault p =>
    exact logKept_of_takeEvent ht (hostServe_logKept (noParameters_logKept reading_logKept))
  | getTariff p => exact logKept_of_takeEvent ht (hostServe_logKept getTariffHandler_logKept)
  | hostPutPendingTariff p => exact logKept_of_takeEvent ht (hostServe_logKept putTariff_logKept)
  | hostCancelPending p =>
    exact logKept_of_takeEvent ht (hostServe_logKept (noParameters_logKept cancelPending_logKept))
  | hostSubmitCode p => exact logKept_of_takeEvent ht (hostServe_logKept submitPort_logKept)
  | getCodeResult p =>
    exact logKept_of_takeEvent ht (hostServe_logKept (noParameters_logKept codeResultHandler_logKept))
  | hostSetTime p => exact logKept_of_takeEvent ht (hostServe_logKept hostTimeHandler_logKept)
  | remoteHold p | remoteRelease p =>
    exact logKept_of_takeEvent ht (hostServe_logKept (noParameters_logKept remoteHandler_logKept))
  | reportMetrologyTamper p => exact logKept_of_takeEvent ht (hostServe_logKept metrologyHandler_logKept)
  | hostReadLog p => exact logKept_of_takeEvent ht (hostServe_logKept (noParameters_logKept hostLogHandler_logKept))
  | hostSeekOldest p | hostSeekNewest p =>
    exact logKept_of_takeEvent ht
      (hostServe_logKept (noParameters_logKept fun e => moveHostCursor_logKept (.refl e)))
  | mark p => exact logKept_of_takeEvent ht (hostServe_logKept (noParameters_logKept markHandler_logKept))
  | returnToMark p => exact logKept_of_takeEvent ht (hostServe_logKept (noParameters_logKept returnHandler_logKept))
  | getNotices p => exact logKept_of_takeEvent ht (hostServe_logKept (noParameters_logKept noticesHandler_logKept))
  | setNoticeEnable p => exact logKept_of_takeEvent ht (hostServe_logKept enableHandler_logKept)
  | hostRestart p =>
    exact logKept_of_takeEvent ht (hostServe_logKept (noParameters_logKept fun e => restart_logKept (.refl e)))
  | hostBadFrame | hostUnknownRequest code => exact logKept_of_takeEvent ht (.ite h h)
  | responseCompletion =>
    refine logKept_of_takeEvent (show execResponseCompletion s = _ from ht) ?_
    split <;> exact h
  -- the service port (section 10.2)
  | readStatus p | readAccount p | readTariff p | readDemand p | readTamper p | readLink p | readEnergy p
  | readCodeList p | readCodeResult p | serviceReadLog p | serviceSeekOldest p | serviceSeekNewest p
  | serviceSubmitCode p | commission p | writeConfig p | writeFunctionTable p | serviceSetTime p
  | servicePutPendingTariff p | serviceCancelPending p | serviceHold p | serviceRelease p | retryRelay p
  | testStart p | testEnd p | restoreAccount p | clearLinkCounts p | serviceRestart p =>
    exact logKept_of_takeEvent ht (serviceFrame_logKept h)
  | serviceUnknownRequest kind payload =>
    exact logKept_of_takeEvent ht (.ite (serviceServe_logKept unknownRequest_logKept h) h)
  | commissionCompletion =>
    refine logKept_of_takeEvent (show execCommissionCompletion s = _ from ht) ?_
    split
    · split
      case isTrue hguard => exact completeCommission_logKept hguard.2
      case isFalse => exact h
    · exact h
  | serviceGoodCharacter c => exact logKept_of_takeEvent ht (serviceCharacter_logKept h)
  | serviceGapExpiry | serviceDamagedCharacter | serviceBadFrameCheck | serviceResponseTransmit | serviceResponseEnd =>
    exact logKept_of_takeEvent ht (.ite h h)
  -- power (sections 10.1, 10.4 and 10.5)
  | mainsLoss => exact logKept_of_takeEvent ht (.ite (loseMains_logKept h) h)
  | mainsReturn strap => exact logKept_of_takeEvent ht (.ite (returnMains_logKept h) h)
  | resetAssert => exact logKept_of_takeEvent (show execResetAssert s = _ from ht) (.ite h (assertReset_logKept h))
  | resetRelease => exact logKept_of_takeEvent ht (.ite (releaseReset_logKept h) h)
  | initMainsChange level => exact logKept_of_takeEvent ht (.ite (changeInitMains_logKept h) h)
  | endOfInitializing strap first => exact absurd rfl (hi strap first)
  | backupAndMainsLost => exact logKept_of_takeEvent ht (.ite (loseSupply_logKept h) h)
  | poweredFromNothing level r =>
    exact logKept_of_takeEvent (show execPoweredFromNothing level r s = _ from ht) (.ite h (gainSupply_logKept h))

/-- Why a log holds a record after a step from `d` to `e`: it held one before, or INITIALIZING is left with the retained
store lost. -/
def RecordDue (d e : Device) : Prop :=
  d.log.records ≠ []
    ∨ (d.power.part = .initializing ∧ d.power.storeIntact = false ∧ e.power.part ≠ .initializing)

/-- Where INITIALIZING is kept, only a record held before is a reason. -/
theorem RecordDue.held (h : RecordDue d e) (hkept : d.power.part = .initializing → e.power.part = .initializing) :
    d.log.records ≠ [] :=
  h.resolve_right fun ⟨hinit, _, hleft⟩ => hleft (hkept hinit)

theorem execEndOfInitializing_records_ne_nil {strap : Level} {first : List Source} {s t : State}
    (ht : execEndOfInitializing strap first s = .next t)
    (h : RecordDue s.device t.device) : t.device.log.records ≠ [] := by
  cases ht
  simp only [RecordDue, noteDisplay_log, noteDisplay_power] at h ⊢
  split at h
  case isTrue hguard =>
    rw [if_pos hguard]
    exact endInitializing_records_ne_nil (h.imp_right fun ⟨_, hlost, _⟩ => hlost)
  case isFalse hguard =>
    rw [if_neg hguard]
    exact RecordDue.held h id

/-- No command empties the log, and the one that leaves INITIALIZING on a lost store writes a record. -/
theorem exec_records_ne_nil {i : Instr} {s t : State} (ht : exec i s = .next t)
    (h : RecordDue s.device t.device) : t.device.log.records ≠ [] := by
  by_cases hend : ∃ strap first, i = .endOfInitializing strap first
  · obtain ⟨strap, first, rfl⟩ := hend
    exact execEndOfInitializing_records_ne_nil ht h
  · have kept : LogKept s.device t.device := exec_logKept (fun strap first hi => hend ⟨strap, first, hi⟩) ht
    exact kept.records_ne_nil (h.held kept.2)

theorem step_records_ne_nil {s t : State} (ht : step s = .next t)
    (h : RecordDue s.device t.device) : t.device.log.records ≠ [] := by
  unfold step at ht
  split at ht
  · cases ht
    exact h.held id
  · exact exec_records_ne_nil ht h

end Sys2Proof.Machine
end

section
/-! PROOFS. The seeks of both ports (R158): the numbers they find, and the cursor each moves. -/

namespace Sys2Proof.Machine

/-! ### The lowest and the highest number held -/

theorem oldestNumber_eq_head (cursor : Nat) (l : Log) : oldestNumber cursor l = (heldNumbers l).head?.getD cursor := by
  simp [oldestNumber, heldNumbers]

theorem newestNumber_eq_getLast (cursor : Nat) (l : Log) :
    newestNumber cursor l = (heldNumbers l).getLast?.getD cursor := by
  simp [newestNumber, heldNumbers]

/-- In ascending order the first number held is the lowest. -/
theorem oldestNumber_of_least {l : Log} {low : Nat} (hasc : (heldNumbers l).Pairwise (· < ·))
    (hmem : low ∈ heldNumbers l) (hleast : ∀ n ∈ heldNumbers l, low ≤ n) (cursor : Nat) :
    oldestNumber cursor l = low := by
  rw [oldestNumber_eq_head]
  cases hheld : heldNumbers l with
  | nil => simp [hheld] at hmem
  | cons first rest =>
    rw [hheld] at hasc hmem hleast
    have hle : low ≤ first := hleast first List.mem_cons_self
    rcases List.mem_cons.mp hmem with rfl | hrest
    · rfl
    · exact absurd (List.rel_of_pairwise_cons hasc hrest) (Nat.not_lt.mpr hle)

/-- In ascending order the last number held is the highest. -/
theorem newestNumber_of_greatest {l : Log} {high : Nat} (hasc : (heldNumbers l).Pairwise (· < ·))
    (hmem : high ∈ heldNumbers l) (hgreatest : ∀ n ∈ heldNumbers l, n ≤ high) (cursor : Nat) :
    newestNumber cursor l = high := by
  rw [newestNumber_eq_getLast]
  rcases List.eq_nil_or_concat (heldNumbers l) with hheld | ⟨front, last, hheld⟩
  · simp [hheld] at hmem
  · rw [List.concat_eq_append] at hheld
    rw [hheld] at hasc hmem hgreatest ⊢
    have hle : last ≤ high := hgreatest last List.mem_concat_self
    have hbefore : high ∉ front := fun hfront =>
      absurd ((List.pairwise_append.mp hasc).2.2 high hfront last (List.mem_singleton_self last)) (Nat.not_lt.mpr hle)
    simpa [hbefore, eq_comm] using hmem

/-! ### The cursors -/

/-- A request at the running meter host port that moves its cursor to a number, and answers it. -/
theorem answers_moveHostCursor {c : Instr} {s : State} {target : Nat → Log → Nat} {number : Nat}
    (hexec : exec c s
      = takeEvent s (hostServe [] (noParameters [] fun d => moveHostCursor (target d.log.hostCursor d.log) d)))
    (hnumber : ∀ cursor, target cursor s.device.log = number) (hrun : running s.device = true) :
    answers c s fun d =>
      d.log = { s.device.log with hostCursor := number } ∧ responded (accepted (beBytes 5 number)) s.device d
        ∧ keepsBut [.log, .host] s.device d := by
  have hserved : hostServe [] (noParameters [] fun d => moveHostCursor (target d.log.hostCursor d.log) d) s.device
      = prepare (accepted (beBytes 5 number)) (s.device.setLog { s.device.log with hostCursor := number }) := by
    simp [hostServe, hrun, noParameters, moveHostCursor, hnumber]
  apply answers_of_takeEvent hexec
  rw [hserved]
  refine ⟨noteDisplay_log _ _, noteDisplay_host _ _, keepsBut_noteDisplay ?frame⟩
  exact keepsBut_comp (setLog_keeps s.device _) (setHost_keeps _ _)

/-- A request at the ready service port that moves its cursor to a number, and answers it. -/
theorem answers_moveServiceCursor {c : Instr} {s : State} {code : Byte} {target : Nat → Log → Nat} {number : Nat}
    (hexec : exec c s
      = takeEvent s (serviceServe code []
          (answering (noParameters [] fun d => moveServiceCursor (target d.log.serviceCursor d.log) d))))
    (hnumber : ∀ cursor, target cursor s.device.log = number) (hready : serviceReady code [] s.device) :
    answers c s fun d =>
      d.log = { s.device.log with serviceCursor := number }
        ∧ replied code (accepted (beBytes 5 number)) s.device d ∧ keepsBut [.log, .service] s.device d := by
  obtain ⟨hrun, hadmits, hwaiting, hcommissioning⟩ := hready
  have hserved : serviceServe code []
        (answering (noParameters [] fun d => moveServiceCursor (target d.log.serviceCursor d.log) d)) s.device
      = replyWith code (some (accepted (beBytes 5 number)))
          ((huntService s.device).setLog { s.device.log with serviceCursor := number }) := by
    simp [serviceServe, hrun, hadmits, huntService, hwaiting, hcommissioning, answering, noParameters,
      moveServiceCursor, hnumber]
  apply answers_of_takeEvent hexec
  rw [hserved]
  refine ⟨noteDisplay_log _ _, noteDisplay_service _ _, keepsBut_noteDisplay ?frame⟩
  exact keepsBut_comp (n := [.log, .service])
    (keepsBut_comp (n := [.log, .service]) (setService_keeps s.device _) (setLog_keeps _ _)) (setService_keeps _ _)

/-- Settles O36: in ascending order the ends of the log are the lowest and the highest number, and each step but the end
of INITIALIZING keeps `LogKept`. -/
theorem seekMovesItsOwnCursor : Obligations.SeekMovesItsOwnCursor := by
  refine ⟨fun s low high hasc hlow hleast hhigh hgreatest => ?seeks, fun s t ht h => step_records_ne_nil ht h⟩
  have holdest := oldestNumber_of_least hasc hlow hleast
  have hnewest := newestNumber_of_greatest hasc hhigh hgreatest
  refine ⟨fun hrun => ⟨?hostOldest, ?hostNewest⟩, fun hready => ?serviceOldest, fun hready => ?serviceNewest⟩
  case hostOldest => exact answers_moveHostCursor (target := oldestNumber) rfl holdest hrun
  case hostNewest => exact answers_moveHostCursor (target := newestNumber) rfl hnewest hrun
  case serviceOldest => exact answers_moveServiceCursor (target := oldestNumber) rfl holdest hready
  case serviceNewest => exact answers_moveServiceCursor (target := newestNumber) rfl hnewest hready

end Sys2Proof.Machine
end

section
-- One declaration after another: elaborated at once, each use of a frame's default argument holds a thread while it waits
-- for the kernel, and together they pass the memory the check allows.
set_option Elab.async false

section
/-! PROOFS. Laws: the relations that a step keeps between the device before it and after it, and how a frame, a mend and a
composition show that an operation keeps them. -/

namespace Sys2Proof.Machine

/-! ### One block of a frame -/

/-- What the lines say is read from the Tamper Monitor alone (R139). -/
theorem functionActive_congr {d e : Device} (h : e.tamper = d.tamper) (f : LineFunction) :
    functionActive e f = functionActive d f := by
  unfold functionActive
  rw [h]

theorem auxPosition_congr {d e : Device} (h : e.tamper = d.tamper) : auxPosition e = auxPosition d := by
  unfold auxPosition functionAssigned
  rw [functionActive_congr h, h]

section
variable {l : List Block} {d e : Device}

theorem keepsBut.power (h : keepsBut l d e) (hl : .power ∉ l := by decide) : e.power = d.power := h .power hl
theorem keepsBut.intake (h : keepsBut l d e) (hl : .intake ∉ l := by decide) : e.intake = d.intake := h .intake hl
theorem keepsBut.residue (h : keepsBut l d e) (hl : .residue ∉ l := by decide) : e.residue = d.residue := h .residue hl
theorem keepsBut.account (h : keepsBut l d e) (hl : .account ∉ l := by decide) : e.account = d.account := h .account hl
theorem keepsBut.settings (h : keepsBut l d e) (hl : .settings ∉ l := by decide) : e.settings = d.settings :=
  h .settings hl
theorem keepsBut.clock (h : keepsBut l d e) (hl : .clock ∉ l := by decide) : e.clock = d.clock := h .clock hl
theorem keepsBut.tariffs (h : keepsBut l d e) (hl : .tariffs ∉ l := by decide) : e.tariffs = d.tariffs := h .tariffs hl
theorem keepsBut.codes (h : keepsBut l d e) (hl : .codes ∉ l := by decide) : e.codes = d.codes := h .codes hl
theorem keepsBut.keypad (h : keepsBut l d e) (hl : .keypad ∉ l := by decide) : e.keypad = d.keypad := h .keypad hl
theorem keepsBut.linkBody (h : keepsBut l d e) (hl : .link ∉ l := by decide) : linkBody e.link = linkBody d.link :=
  h .link hl
theorem keepsBut.relay (h : keepsBut l d e) (hl : .relay ∉ l := by decide) : e.relay = d.relay := h .relay hl
theorem keepsBut.load (h : keepsBut l d e) (hl : .load ∉ l := by decide) : e.load = d.load := h .load hl
theorem keepsBut.tamper (h : keepsBut l d e) (hl : .tamper ∉ l := by decide) : e.tamper = d.tamper := h .tamper hl
theorem keepsBut.log (h : keepsBut l d e) (hl : .log ∉ l := by decide) : e.log = d.log := h .log hl
theorem keepsBut.host (h : keepsBut l d e) (hl : .host ∉ l := by decide) : e.host = d.host := h .host hl
theorem keepsBut.service (h : keepsBut l d e) (hl : .service ∉ l := by decide) : e.service = d.service := h .service hl
theorem keepsBut.oneTime (h : keepsBut l d e) (hl : .oneTime ∉ l := by decide) : e.oneTime = d.oneTime := h .oneTime hl

/-- Whether the ports run is read from the power block alone. -/
theorem keepsBut.running (h : keepsBut l d e) (hl : .power ∉ l := by decide) : running e = running d := by
  simp only [Machine.running, h.power hl]

/-- A source's entry is read from the Tamper Monitor alone. -/
theorem keepsBut.sourceEntry (h : keepsBut l d e) (x : Source) (hl : .tamper ∉ l := by decide) :
    sourceEntry e x = sourceEntry d x := by
  simp only [Machine.sourceEntry, h.tamper hl]

/-- The auxiliary position is read from the Tamper Monitor alone (R114). -/
theorem keepsBut.auxPosition (h : keepsBut l d e) (hl : .tamper ∉ l := by decide) : auxPosition e = auxPosition d :=
  auxPosition_congr (h.tamper hl)

/-- The time of a record is read from the clock alone (R154). -/
theorem keepsBut.timeMark (h : keepsBut l d e) (hl : .clock ∉ l := by decide) : timeMark e = timeMark d := by
  simp only [Machine.timeMark, h.clock hl]

end

/-! ### The laws -/

/-- The meter host port but for its pending notices, which every block raises. -/
def hostBody (h : HostPort) : HostPort := { h with notices := 0 }

/-! Within a second tick four invariants stand a little late until their own part of the tick is taken. Each is given
here with that lateness as a parameter, so that what an operation keeps of the one it keeps of the other. -/

/-- The law of a meter test, its timer at most at a bound (R19). -/
def TestUpTo (bound : Nat) (d : Device) : Prop :=
  d.codes.windowMinutes ≤ Config.windowTop
    ∧ (d.intake.testActive = true →
        running d = true ∧ d.power.part = .inService ∧ 0 < d.codes.windowMinutes ∧ d.intake.testTimer ≤ bound)

theorem testSound_iff (d : Device) : TestSound d ↔ TestUpTo 3599 d := by
  simp only [TestSound, TestUpTo, Config.testSeconds, Nat.lt_succ_iff]

/-- A presence timer at a bound or above it (R100). -/
def presenceFrom (bound : Nat) (p : Presence) : Prop :=
  match p with
  | .watching left => bound ≤ left ∧ left ≤ Config.presenceSeconds
  | _ => True

/-- The law of the customer link, its presence timer at a bound or above it (R100). -/
def LinkFrom (bound : Nat) (d : Device) : Prop :=
  d.link.parityErrors ≤ 255 ∧ d.link.framingErrors ≤ 255 ∧ d.link.badFrames ≤ 255
    ∧ presenceFrom bound d.link.presence ∧ assemblyInRange d.link.assembly = true
    ∧ (running d = false → d.link.sending = none ∧ d.link.assembly = .hunting)

theorem linkSound_iff (d : Device) : LinkSound d ↔ LinkFrom 1 d := by
  have h : presenceInRange d.link.presence = true ↔ presenceFrom 1 d.link.presence := by
    cases d.link.presence with
    | watching left => simp only [presenceInRange, presenceFrom, Bool.and_eq_true, decide_eq_true_eq]; rfl
    | waitingFirst | lapsed => simp [presenceInRange, presenceFrom]
  simp only [LinkSound, LinkFrom, h]

/-- The law of the Load Monitor; a late LOAD may outlast the backoff (R131). -/
def LoadBut (late : Prop) (d : Device) : Prop :=
  (∀ n ∈ d.load.slots.toList, n ≤ Config.slotTop) ∧ d.load.limit ≤ Config.loadTop
    ∧ (∀ w ∈ d.load.pendingLimit, 0 < w ∧ w ≤ Config.loadTop) ∧ d.load.backoff ≤ Config.longBackoff
    ∧ d.load.history.length ≤ Config.tripPlaces
    ∧ (d.relay.reasons.load = decide (0 < d.load.backoff) ∨ late ∧ d.load.backoff = 0)

theorem loadSound_iff (d : Device) : LoadSound d ↔ LoadBut False d := by simp [LoadSound, LoadBut]

/-- The law of the reasons of the account and of tampering; a late CREDIT may be the one of a time before (R39). -/
def ReasonsBut (late : Prop) (d : Device) : Prop :=
  d.power.part ≠ .initializing →
    (d.relay.reasons.credit = creditReasonOf d ∨ late) ∧ d.relay.reasons.account = accountReasonOf d
      ∧ d.relay.reasons.tamper = tamperReasonOf d

theorem reasonsSound_iff (d : Device) : ReasonsSound d ↔ ReasonsBut False d := by simp [ReasonsSound, ReasonsBut]

/-- What a step keeps. The invariants of Safety.lean, and beside them: a spent issue number stays spent, a latch stands, a
written One-Time Store stands and an unwritten one is not written, CLOSE_DRIVE is not raised, the meter host port but for
its notices stands, and a pending notice stays pending. -/
inductive Law
  | clock | account | tariffs | queue | used | spent | test | keypad | link | relay | reasons | load | tamper | log
  | store | unwritten | latches | drive | host | notices
deriving DecidableEq, Repr

/-- The relation of a law between the device before and the device after. -/
def Law.kept (l : Law) (d e : Device) : Prop :=
  match l with
  | .clock => ClockSound d → ClockSound e
  | .account => AccountSound d → AccountSound e
  | .tariffs => TariffsSound d → TariffsSound e
  | .queue => QueueSound d → QueueSound e
  | .used => UsedSound d → UsedSound e
  | .spent => UsedSound d → UsedSound e ∧ ∀ n, issueSpent n d → issueSpent n e
  | .test => ∀ bound, TestUpTo bound d → TestUpTo bound e
  | .keypad => KeypadSound d → KeypadSound e
  | .link => ∀ bound ≤ 60, LinkFrom bound d → LinkFrom bound e
  | .relay => PowerSound d ∧ RelaySound d → PowerSound e ∧ RelaySound e
  | .reasons => ∀ late, ReasonsBut late d → ReasonsBut late e
  | .load => ∀ late, LoadBut late d → LoadBut late e
  | .tamper => TamperSound d → TamperSound e
  | .log => LogSound d → LogSound e
  | .store => StoreSound d → StoreSound e ∧ ∀ o, d.oneTime = some o → e.oneTime = some o
  | .unwritten => d.oneTime = none → e.oneTime = none
  | .latches => ∀ x, (sourceEntry d x).latched = true → (sourceEntry e x).latched = true
  | .drive => closeDrive e = true → closeDrive d = true
  | .host => hostBody e.host = hostBody d.host
  | .notices => ∀ n, hasNotice d.host.notices n = true → hasNotice e.host.notices n = true

theorem Law.kept_refl (l : Law) (d : Device) : l.kept d d := by
  cases l
  case spent => exact fun h => ⟨h, fun _ => id⟩
  case store => exact fun h => ⟨h, fun _ => id⟩
  case latches => exact fun _ => id
  case notices => exact fun _ => id
  case test | reasons | load => exact fun _ => id
  case link => exact fun _ _ => id
  case host => rfl
  all_goals exact id

theorem Law.kept_trans {l : Law} {d e f : Device} (h : l.kept d e) (k : l.kept e f) : l.kept d f := by
  cases l
  case spent => exact fun hd => ⟨(k (h hd).1).1, fun n hn => (k (h hd).1).2 n ((h hd).2 n hn)⟩
  case store => exact fun hd => ⟨(k (h hd).1).1, fun o ho => (k (h hd).1).2 o ((h hd).2 o ho)⟩
  case latches => exact fun x hx => k x (h x hx)
  case notices => exact fun n hn => k n (h n hn)
  case host => exact k.trans h
  case drive => exact fun hf => h (k hf)
  case test | reasons | load => exact fun x hd => k x (h x hd)
  case link => exact fun x hx hd => k x hx (h x hx hd)
  all_goals exact fun hd => k (h hd)

/-- The blocks that a law looks at. -/
def Law.reads : Law → List Block
  | .clock => [.clock]
  | .account => [.account, .residue, .settings]
  | .tariffs => [.tariffs]
  | .queue => [.codes]
  | .used => [.codes, .power]
  | .spent => [.codes, .power]
  | .test => [.codes, .intake, .power]
  | .keypad => [.keypad]
  | .link => [.link, .power]
  | .relay => [.relay, .power]
  | .reasons => [.relay, .power, .account, .settings, .clock, .tamper]
  | .load => [.load, .relay]
  | .tamper => [.tamper, .intake]
  | .log => [.log, .tamper]
  | .store => [.power, .oneTime, .service]
  | .unwritten => [.oneTime]
  | .latches => [.tamper]
  | .drive => [.relay]
  | .host => [.host]
  | .notices => [.host]

theorem creditReasonOf_congr {d e : Device} (hp : e.power = d.power) (ha : e.account = d.account)
    (hs : e.settings = d.settings) (hc : e.clock = d.clock) : creditReasonOf e = creditReasonOf d := by
  simp only [creditReasonOf, insideWindow, hp, ha, hs, hc]

theorem accountReasonOf_congr {d e : Device} (hp : e.power = d.power) : accountReasonOf e = accountReasonOf d := by
  simp only [accountReasonOf, hp]

theorem tamperReasonOf_congr {d e : Device} (ht : e.tamper = d.tamper) : tamperReasonOf e = tamperReasonOf d := by
  simp only [tamperReasonOf, ht]

/-- The fields of the link that no note of the display moves. -/
theorem link_fields_of_linkBody {x y : Link} (h : linkBody y = linkBody x) :
    y.parityErrors = x.parityErrors ∧ y.framingErrors = x.framingErrors ∧ y.badFrames = x.badFrames
      ∧ y.presence = x.presence ∧ y.assembly = x.assembly ∧ y.sending = x.sending := by
  cases x; cases y
  simp only [linkBody, Link.mk.injEq] at h
  simp_all

/-- A law stands where every block that it looks at does. -/
theorem Law.kept_of_same {l : Law} {d e : Device} (h : ∀ b ∈ l.reads, b.same d e) : l.kept d e := by
  cases l <;> simp only [Law.reads, List.forall_mem_cons, List.not_mem_nil, false_implies,
    implies_true, and_true, Block.same] at h
  case clock => simp only [Law.kept, ClockSound, h]; exact id
  case account => simp only [Law.kept, AccountSound, h]; exact id
  case tariffs => simp only [Law.kept, TariffsSound, h]; exact id
  case queue => simp only [Law.kept, QueueSound, h]; exact id
  case used => simp only [Law.kept, UsedSound, h]; exact id
  case spent =>
    simp only [Law.kept, UsedSound, issueSpent, h]
    exact fun hd => ⟨hd, fun _ => id⟩
  case test => simp only [Law.kept, TestUpTo, running, h]; exact fun _ => id
  case keypad => simp only [Law.kept, KeypadSound, h]; exact id
  case link =>
    obtain ⟨hlink, hpower⟩ := h
    obtain ⟨h1, h2, h3, h4, h5, h6⟩ := link_fields_of_linkBody hlink
    simp only [Law.kept, LinkFrom, running, h1, h2, h3, h4, h5, h6, hpower]
    exact fun _ _ => id
  case relay => simp only [Law.kept, PowerSound, RelaySound, running, alive, h]; exact id
  case reasons =>
    obtain ⟨hr, hp, ha, hs, hc, ht⟩ := h
    simp only [Law.kept, ReasonsBut, creditReasonOf_congr hp ha hs hc, accountReasonOf_congr hp,
      tamperReasonOf_congr ht, hr, hp]
    exact fun _ => id
  case load => simp only [Law.kept, LoadBut, h]; exact fun _ => id
  case tamper => simp only [Law.kept, TamperSound, h]; exact id
  case log => simp only [Law.kept, LogSound, h]; exact id
  case store =>
    simp only [Law.kept, StoreSound, running, h]
    exact fun hd => ⟨hd, fun _ => id⟩
  case unwritten => simp only [Law.kept, h]; exact id
  case latches => simp only [Law.kept, sourceEntry, h]; exact fun _ => id
  case drive => simp only [Law.kept, closeDrive, h]; exact id
  case host => simp only [Law.kept, h]
  case notices => simp only [Law.kept, h]; exact fun _ => id

/-! ### Keeping all but the named laws -/

/-- Every law but those named is kept. -/
def keepsLaws (named : List Law) (d e : Device) : Prop := ∀ l : Law, l ∉ named → l.kept d e

/-- Every law there is. -/
def allLaws : List Law :=
  [.clock, .account, .tariffs, .queue, .used, .spent, .test, .keypad, .link, .relay, .reasons, .load, .tamper, .log,
    .store, .unwritten, .latches, .drive, .host, .notices]

theorem mem_allLaws (l : Law) : l ∈ allLaws := by cases l <;> decide

/-- The laws that look at one of the blocks named. -/
def lawsReading (blocks : List Block) : List Law := allLaws.filter fun l => l.reads.any (blocks.contains ·)

section
variable {L M : List Law} {d e f : Device}

theorem keepsLaws.refl (L : List Law) (d : Device) : keepsLaws L d d := fun l _ => l.kept_refl d

theorem keepsLaws.mono (h : keepsLaws M d e) (hM : M ⊆ L := by decide) : keepsLaws L d e :=
  fun l hl => h l fun hm => hl (hM hm)

/-- An operation after another: the laws it names are among those already named. -/
theorem keepsLaws.step (h : keepsLaws L d e) (k : keepsLaws M e f) (hM : M ⊆ L := by decide) : keepsLaws L d f :=
  fun l hl => Law.kept_trans (h l hl) (k.mono hM l hl)

/-- A law shown on its own need not be named. -/
theorem keepsLaws.mend {l : Law} (h : keepsLaws (l :: L) d e) (hl : l.kept d e) : keepsLaws L d e := by
  intro m hm
  by_cases hml : m = l
  · exact hml ▸ hl
  · exact h m (by simp [hm, hml])

theorem keepsLaws.ite {c : Prop} {_ : Decidable c} (he : c → keepsLaws L d e) (hf : ¬ c → keepsLaws L d f) :
    keepsLaws L d (if c then e else f) := by
  split
  · exact he ‹_›
  · exact hf ‹_›

/-- A frame keeps every law that looks at none of its blocks. -/
theorem keepsBut.laws {bs : List Block} (h : keepsBut bs d e) (hL : lawsReading bs ⊆ L := by decide) :
    keepsLaws L d e := by
  intro l hl
  refine Law.kept_of_same fun b hb => h b fun hbs => hl (hL ?_)
  simp only [lawsReading, List.mem_filter, List.any_eq_true, List.contains_eq_mem, decide_eq_true_eq]
  exact ⟨mem_allLaws l, b, hb, hbs⟩

theorem keepsLaws.foldl {α : Type} {op : Device → α → Device} (hop : ∀ e a, keepsLaws L e (op e a)) (l : List α)
    (h : keepsLaws L d e) : keepsLaws L d (l.foldl op e) := by
  induction l generalizing e with
  | nil => exact h
  | cons a l ih => exact ih (h.step (hop e a) (List.Subset.refl L))

theorem keepsLaws.iterate {op : Device → Device} (hop : ∀ e, keepsLaws L e (op e)) (n : Nat) (h : keepsLaws L d e) :
    keepsLaws L d (op^[n] e) := by
  induction n generalizing e with
  | zero => exact h
  | succ n ih => exact ih (h.step (hop e) (List.Subset.refl L))

end

end Sys2Proof.Machine
end

section
/-! PROOFS. What the Relay Controller does to the relay, and the laws that records, notices and relay operations keep. -/

namespace Sys2Proof.Machine

/-! ### The relay block after its operations -/

@[simp] theorem raiseNotice_relay (n : Notice) (d : Device) : (raiseNotice n d).relay = d.relay := rfl
@[simp] theorem addRecord_relay (x : LogData) (d : Device) : (addRecord x d).relay = d.relay :=
  (addRecord_keeps x d).relay
@[simp] theorem addRecord_intake (x : LogData) (d : Device) : (addRecord x d).intake = d.intake :=
  (addRecord_keeps x d).intake

@[simp] theorem enterRelay_relay (st : RelayState) (d : Device) :
    (enterRelay st d).relay = { d.relay with state := st } := by
  simp only [enterRelay, raiseNotice_relay, addRecord_relay]
  split <;> rfl

theorem enterRelay_intake_closed (d : Device) :
    (enterRelay .closed d).intake = { d.intake with openEnergy := 0 } := by
  simp only [enterRelay, if_true]
  exact addRecord_intake _ _

/-- The state that a reaction to the open-reason set leaves on mains (Table 6-3). -/
def reactedState (d : Device) : RelayState :=
  match d.relay.state with
  | .closed => settledOn .closed d
  | .open => settledOn .open d
  | .reconnectReady => settledOn .open d
  | other => other

@[simp] theorem reactToReasons_relay {d : Device} (h : running d = true) :
    (reactToReasons d).relay = { d.relay with state := reactedState d } := by
  unfold reactToReasons reactedState settledOn
  rw [if_pos h]
  cases hst : d.relay.state <;> cases hr : d.relay.reasons.isEmpty
  all_goals simp
  case closed.false => rfl
  all_goals simp [← hst]

/-- A settling at a position on mains: the position is confirmed, and the state is the one it settles on (R115, R119). -/
theorem settle_relay {d : Device} (h : running d = true) (p : Position) :
    (settle p d).relay = { d.relay with lastConfirmed := p, state := settledOn p d } := by
  have hframe := keepsBut_comp (n := [.relay, .intake, .log, .host]) (setRelay_keeps d { d.relay with lastConfirmed := p })
    (enterRelay_keeps (settledState p d.relay.reasons) _)
  have hrun : running _ = true := hframe.running.trans h
  have haux := hframe.auxPosition
  dsimp only at haux
  unfold settle
  rw [reactToReasons_relay hrun]
  match p with
  | .open => cases hr : d.relay.reasons.isEmpty <;> simp [reactedState, settledState, settledOn, hr]
  | .closed =>
    simp only [settledState] at haux
    simp [reactedState, settledState, settledOn, startAttempt, haux]

theorem settle_intake (p : Position) (d : Device) :
    (settle p d).intake = (match p with | .open => d.intake | .closed => { d.intake with openEnergy := 0 }) := by
  unfold settle
  rw [(reactToReasons_keeps _).intake]
  match p with
  | .closed => exact enterRelay_intake_closed _
  | .open =>
    have hst : settledState .open d.relay.reasons ≠ .closed := by unfold settledState; dsimp only; split <;> simp
    exact (enterRelay_keeps_intake hst _).intake

/-- Settling at open moves nothing of the intake. -/
theorem settle_open_keeps (d : Device) : keepsBut [.relay, .log, .host] d (settle .open d) := by
  have hst : settledState .open d.relay.reasons ≠ .closed := by unfold settledState; dsimp only; split <;> simp
  exact keepsBut_comp
    (keepsBut_comp (n := [.relay, .log, .host]) (setRelay_keeps d _) (enterRelay_keeps_intake hst _))
    (reactToReasons_keeps _)

theorem setReasons_of_ne {r : Reasons} {d : Device} (h : r ≠ d.relay.reasons) :
    setReasons r d = reactToReasons (d.setRelay { d.relay with reasons := r }) := if_neg h

/-- Off mains a change of the set is the set's alone (R126). -/
theorem setReasons_relay_off {d : Device} (h : running d = false) (r : Reasons) :
    (setReasons r d).relay = { d.relay with reasons := r } := by
  by_cases hr : r = d.relay.reasons
  · simp [setReasons, hr]
  · rw [setReasons_of_ne hr]
    exact congrArg Device.relay (reactToReasons_off (d := d.setRelay { d.relay with reasons := r }) h)

/-- A hand-off moves the set and, by the reaction, the state; the last confirmed position and the fault stand. -/
theorem setReasons_lastConfirmed (r : Reasons) (d : Device) :
    (setReasons r d).relay.lastConfirmed = d.relay.lastConfirmed ∧ (setReasons r d).relay.fault = d.relay.fault := by
  by_cases hr : r = d.relay.reasons
  · simp [setReasons, hr]
  cases hrun : running d
  · rw [setReasons_relay_off hrun]; exact ⟨rfl, rfl⟩
  · rw [setReasons_of_ne hr, reactToReasons_relay (d := d.setRelay { d.relay with reasons := r }) hrun]
    exact ⟨rfl, rfl⟩

/-- While no relay state is held, none comes of a hand-off (R126). -/
theorem setReasons_unheld {r : Reasons} {d : Device} (h : d.relay.state = .unheld) :
    (setReasons r d).relay.state = .unheld := by
  by_cases hr : r = d.relay.reasons
  · simp [setReasons, hr, h]
  · rw [setReasons_of_ne hr]
    unfold reactToReasons
    simp [h]

/-! ### Notices and records -/

theorem hasNotice_or {s : NoticeSet} {n : Notice} (h : hasNotice s n = true) (t : NoticeSet) :
    hasNotice (s ||| t) n = true := by
  simp only [hasNotice] at h ⊢
  simp [h]

theorem raiseNotice_laws (n : Notice) (d : Device) : keepsLaws [] d (raiseNotice n d) :=
  ((raiseNotice_keeps n d).laws (L := [.host, .notices])).mend rfl |>.mend fun _ h => hasNotice_or h _

/-- The numbers held ascend, so no number is held twice. -/
theorem heldNumbers_nodup {l : Log} (h : (heldNumbers l).Pairwise (· < ·)) : (heldNumbers l).Nodup :=
  h.imp fun hab => Nat.ne_of_lt hab

/-- A full log holds a record to remove: at most eight are protected (R155, R156). -/
theorem exists_unprotected {v : Vector SourceEntry 8} {l : Log} (hasc : (heldNumbers l).Pairwise (· < ·))
    (hfull : 8 < l.records.length) : ∃ r ∈ l.records, protectedRecord v r = false := by
  by_contra hall
  push Not at hall
  have hsub : heldNumbers l ⊆ v.toList.filterMap (·.record) := by
    intro n hn
    obtain ⟨r, hr, rfl⟩ := List.mem_map.mp hn
    have hp := hall r hr
    simp only [ne_eq, Bool.not_eq_false, protectedRecord, List.any_eq_true, Bool.and_eq_true, beq_iff_eq] at hp
    obtain ⟨e, he, _, hrec⟩ := hp
    exact List.mem_filterMap.mpr ⟨e, he, hrec⟩
  have hle := (List.subperm_of_subset (heldNumbers_nodup hasc) hsub).length_le
  have h8 := List.length_filterMap_le (·.record) v.toList
  simp only [heldNumbers, List.length_map, Vector.length_toList] at hle h8
  omega

/-- Room for one record: of at most 64 at most 63 are left (R155). -/
theorem makeRoom_length {v : Vector SourceEntry 8} {l : Log} (hasc : (heldNumbers l).Pairwise (· < ·))
    (hlen : l.records.length ≤ Config.logPlaces) : (makeRoom v l.records).length < Config.logPlaces := by
  unfold makeRoom
  split
  case isTrue h => exact h
  case isFalse h =>
    have hfull : l.records.length = 64 := by simp only [Config.logPlaces] at h hlen; omega
    obtain ⟨r, hr, hp⟩ := exists_unprotected (v := v) hasc (by omega)
    rw [List.length_eraseP_of_mem hr (by simp [hp]), hfull]
    decide

theorem addRecord_logSound (x : LogData) {d : Device} (h : LogSound d) : LogSound (addRecord x d) := by
  obtain ⟨hlen, hasc, hbelow, hnext, hhost, hservice, hmark, hlatch⟩ := h
  rcases Nat.lt_or_ge d.log.next Config.numberEnd with hroom | hexhausted
  case inr => rw [addRecord_exhausted hexhausted]; exact ⟨hlen, hasc, hbelow, hnext, hhost, hservice, hmark, hlatch⟩
  have hsub : ((makeRoom d.tamper.sources d.log.records).map (·.number)).Sublist (heldNumbers d.log) :=
    (makeRoom_sublist _ _).map _
  have hheld : heldNumbers (addRecord x d).log
      = (makeRoom d.tamper.sources d.log.records).map (·.number) ++ [d.log.next] := by
    simp [heldNumbers, addRecord_log hroom]
  unfold LogSound
  rw [hheld, addRecord_log hroom, (addRecord_keeps x d).tamper]
  refine ⟨?length, ?ascending, ?below, hroom, Nat.le_succ_of_le hhost, Nat.le_succ_of_le hservice,
    fun m hm => Nat.le_succ_of_le (hmark m hm), ?held⟩
  case length => simpa using Nat.succ_le_of_lt (makeRoom_length (v := d.tamper.sources) hasc hlen)
  case ascending =>
    refine List.pairwise_append.mpr ⟨hasc.sublist hsub, List.pairwise_singleton _ _, fun a ha b hb => ?_⟩
    rw [List.mem_singleton.mp hb]
    exact hbelow a (hsub.subset ha)
  case below =>
    intro n hn
    rcases List.mem_append.mp hn with hn | hn
    · exact Nat.lt_succ_of_lt (hbelow n (hsub.subset hn))
    · rw [List.mem_singleton.mp hn]; exact Nat.lt_succ_self _
  case held =>
    intro e he hl n hn
    obtain ⟨r, hr, rfl⟩ := List.mem_map.mp (hlatch e he hl n hn)
    have hp : protectedRecord d.tamper.sources r = true :=
      List.any_eq_true.mpr ⟨e, he, by simpa [hl] using hn⟩
    exact List.mem_append_left _ (List.mem_map_of_mem (makeRoom_keeps_protected hr hp))

theorem addRecord_laws (x : LogData) (d : Device) : keepsLaws [] d (addRecord x d) := by
  have hhost : (addRecord x d).host = d.host ∨ (addRecord x d).host = (raiseNotice .logNew d).host := by
    unfold addRecord; split
    · exact .inl rfl
    · exact .inr rfl
  refine ((addRecord_keeps x d).laws (L := [.log, .host, .notices])).mend (addRecord_logSound x) |>.mend ?_ |>.mend ?_
  · rcases hhost with h | h <;> simp only [Law.kept, h]
    rfl
  · rcases hhost with h | h <;> simp only [Law.kept, h]
    · exact fun _ => id
    · exact fun _ hn => hasNotice_or hn _

theorem recordDiscard_laws (n : Nat) (w : DebitReason) (d : Device) : keepsLaws [] d (recordDiscard n w d) := by
  unfold recordDiscard
  exact .ite (fun _ => addRecord_laws _ _) fun _ => .refl _ _

theorem noteDisplay_laws (old new : Device) : keepsLaws [] new (noteDisplay old new) := (noteDisplay_keeps old new).laws

/-! ### The relay -/

/-- On mains outside INITIALIZING the relay's law asks of the state left that it is held and is one its reasons allow. -/
theorem relay_kept_of_running {d e : Device} (hp : e.power = d.power) (hrun : running d = true)
    (hne : e.relay.state ≠ .unheld)
    (hallowed : RelaySound d → stateAllowed e.relay.state e.relay.reasons = true) : Law.relay.kept d e := by
  rintro ⟨hpower, hrelay⟩
  have hrun' : running e = true := by simpa only [running, hp] using hrun
  refine ⟨by simpa only [PowerSound, alive, hp] using hpower, ?_, fun _ => hallowed hrelay, ?_⟩
  · have : e.power.part ≠ .initializing := by
      rw [hp]; intro h; simp [running, h] at hrun
    simp [this, hne]
  · intro h; rw [hrun'] at h; cases h

/-- The reasons' laws look at the set and not at the rest of the relay. -/
theorem setRelay_laws {d : Device} {x : Relay} (h : x.reasons = d.relay.reasons) :
    keepsLaws [.relay, .drive] d (d.setRelay x) := by
  refine ((setRelay_keeps d x).laws (L := [.reasons, .load, .relay, .drive])).mend ?_ |>.mend ?_
  · simp only [Law.kept, ReasonsBut, Device.setRelay_relay, h]; exact fun _ => id
  · simp only [Law.kept, LoadBut, Device.setRelay_relay, h]; exact fun _ => id

/-- A drive start on mains: toward open it raises no CLOSE_DRIVE. -/
theorem startAttempt_laws {d : Device} (hrun : running d = true) (p : Position) (second : Bool) :
    keepsLaws [.drive] d (startAttempt p second d) := by
  refine keepsLaws.mend (setRelay_laws rfl) (relay_kept_of_running rfl hrun ?_ fun _ => ?_) <;>
    cases p <;> simp [startAttempt, stateAllowed]

theorem startAttempt_open_laws {d : Device} (hrun : running d = true) (second : Bool) :
    keepsLaws [] d (startAttempt .open second d) := by
  refine keepsLaws.mend (startAttempt_laws hrun .open second) ?_
  simp [Law.kept, closeDrive, startAttempt]

theorem zeroOpenEnergy_laws (d : Device) : keepsLaws [] d (zeroOpenEnergy d) := by
  refine ((zeroOpenEnergy_keeps d).laws (L := [.test, .tamper])).mend (fun _ => id) |>.mend ?_
  rintro ⟨h1, h2, h3, h4, h5, h6, _, h8⟩
  exact ⟨h1, h2, h3, h4, h5, h6, Nat.zero_le _, h8⟩

/-- An entry into a state that drives nothing. -/
theorem enterRelay_laws (st : RelayState) (d : Device) (hst : inOperation st = false) :
    keepsLaws [.relay] d (enterRelay st d) := by
  have hdrive : Law.drive.kept d (d.setRelay { d.relay with state := st }) := by
    intro h
    cases st <;> simp_all [closeDrive, inOperation]
  have hset : keepsLaws [.relay] d (d.setRelay { d.relay with state := st }) := by
    intro l hl
    by_cases hl' : l = .drive
    · exact hl' ▸ hdrive
    · exact setRelay_laws (d := d) (x := { d.relay with state := st }) rfl l (by simp_all)
  unfold enterRelay
  exact (keepsLaws.ite (fun _ => hset.step (zeroOpenEnergy_laws _)) fun _ => hset).step (addRecord_laws _ _)
    |>.step (raiseNotice_laws _ _)

/-- On mains a reaction keeps every law but that of the relay, which the new set may have broken before it. -/
theorem reactToReasons_laws (d : Device) : keepsLaws [.relay] d (reactToReasons d) := by
  unfold reactToReasons
  refine .ite (fun hrun => ?_) fun _ => .refl _ _
  split
  · exact .ite (fun _ => .refl _ _) fun _ => (startAttempt_open_laws hrun false).mono
  · exact .ite (fun _ => enterRelay_laws _ d rfl) fun _ => .refl _ _
  · exact .ite (fun _ => .refl _ _) fun _ => enterRelay_laws _ d rfl
  · exact .refl _ _

theorem settledOn_allowed (p : Position) (d : Device) :
    settledOn p d ≠ .unheld ∧ stateAllowed (settledOn p d) d.relay.reasons = true := by
  cases p <;> cases h : d.relay.reasons.isEmpty <;> simp [settledOn, h, stateAllowed, startAttempt]

/-- On mains a reaction leaves a state that the set allows (R118). -/
theorem reactedState_allowed {d : Device} (h : d.relay.state ≠ .unheld) :
    reactedState d ≠ .unheld ∧ stateAllowed (reactedState d) d.relay.reasons = true := by
  unfold reactedState
  split
  · exact settledOn_allowed _ _
  · exact settledOn_allowed _ _
  · exact settledOn_allowed _ _
  · refine ⟨h, ?_⟩
    cases hst : d.relay.state <;> simp_all [stateAllowed]

/-- The set as handed on: the laws of the reasons' owners are theirs to show. -/
theorem setReasons_laws (r : Reasons) (d : Device) : keepsLaws [.reasons, .load] d (setReasons r d) := by
  by_cases hr : r = d.relay.reasons
  · rw [setReasons, if_pos hr]; exact .refl _ _
  have hset : keepsLaws [.relay, .reasons, .load] d (d.setRelay { d.relay with reasons := r }) :=
    ((setRelay_keeps d _).laws (L := [.drive, .relay, .reasons, .load])).mend id
  have hframe := setReasons_keeps r d
  rw [setReasons_of_ne hr] at hframe ⊢
  refine keepsLaws.mend (hset.step (reactToReasons_laws _)) ?_
  cases hrun : running d
  case false =>
    rw [reactToReasons_off (d := d.setRelay { d.relay with reasons := r }) hrun]
    rintro ⟨hpower, hheld, _, hidle⟩
    exact ⟨hpower, hheld, fun h => absurd (hrun.symm.trans h) (by decide), hidle⟩
  case true =>
    rintro ⟨hpower, hrelay⟩
    have hne : d.relay.state ≠ .unheld := by
      intro h; have := hrelay.1.2 h; simp [running, this] at hrun
    have hreact := reactToReasons_relay (d := d.setRelay { d.relay with reasons := r }) hrun
    have hallowed := reactedState_allowed (d := d.setRelay { d.relay with reasons := r }) hne
    exact relay_kept_of_running hframe.power hrun (by rw [hreact]; exact hallowed.1)
      (fun _ => by rw [hreact]; exact hallowed.2) ⟨hpower, hrelay⟩

/-- The law of the Load Monitor looks at LOAD alone among the reasons. -/
theorem load_kept_setReasons {r : Reasons} {d : Device} (h : r.load = d.relay.reasons.load) :
    Law.load.kept d (setReasons r d) := by
  simp only [Law.kept, LoadBut, setReasons_reasons, (setReasons_keeps r d).load, h]
  exact fun _ => id

/-- A reason that the meter host or the technician owns. -/
theorem setReason_held_laws {w : Reason} (hw : w = .remote ∨ w = .service) (p : Bool) (d : Device) :
    keepsLaws [] d (setReason w p d) := by
  have hk := setReason_keeps w p d
  refine keepsLaws.mend (keepsLaws.mend (setReasons_laws _ d) ?_) (load_kept_setReasons ?_)
  · intro late h hpart
    have hsame := h (hk.power ▸ hpart)
    rw [creditReasonOf_congr hk.power hk.account hk.settings hk.clock, accountReasonOf_congr hk.power,
      tamperReasonOf_congr hk.tamper, setReason_reasons]
    rcases hw with rfl | rfl <;> exact hsame
  · rcases hw with rfl | rfl <;> rfl

/-- LOAD is the Load Monitor's, whose law follows the backoff. -/
theorem setReason_load_laws (p : Bool) (d : Device) : keepsLaws [.load] d (setReason .load p d) := by
  have hk := setReason_keeps .load p d
  refine keepsLaws.mend (setReasons_laws _ d) fun late h hpart => ?_
  have hsame := h (hk.power ▸ hpart)
  rw [creditReasonOf_congr hk.power hk.account hk.settings hk.clock, accountReasonOf_congr hk.power,
    tamperReasonOf_congr hk.tamper, setReason_reasons]
  exact hsame

theorem settle_laws {d : Device} (hrun : running d = true) (p : Position) : keepsLaws [] d (settle p d) := by
  have hst : inOperation (settledState p d.relay.reasons) = false := by
    cases p <;> simp only [settledState]
    · split <;> rfl
    · rfl
  have hconfirmed : keepsLaws [] d (d.setRelay { d.relay with lastConfirmed := p }) :=
    (setRelay_laws (d := d) (x := { d.relay with lastConfirmed := p }) rfl).mend id |>.mend id
  have hrelay := settle_relay hrun p
  refine keepsLaws.mend ((hconfirmed.mono (L := [.relay]).step (enterRelay_laws _ _ hst)).step (reactToReasons_laws _)) ?_
  exact relay_kept_of_running (settle_keeps p d).power hrun (by rw [hrelay]; exact (settledOn_allowed p d).1)
    fun _ => by rw [hrelay]; exact (settledOn_allowed p d).2

@[simp] theorem goStuck_state (c : FaultCause) (p : Position) (d : Device) : (goStuck c p d).relay.state = .stuck p :=
  enterRelay_state _ _

theorem goStuck_laws {d : Device} (hrun : running d = true) (c : FaultCause) (p : Position) :
    keepsLaws [] d (goStuck c p d) := by
  have hfault : keepsLaws [] d (recordFault c p d) :=
    keepsLaws.step ((setRelay_laws (d := d) (x := { d.relay with fault := some _ }) rfl).mend id |>.mend id)
      (addRecord_laws _ _)
  have hentered : keepsLaws [.relay] d (goStuck c p d) := hfault.mono.step (enterRelay_laws (.stuck p) _ rfl)
  refine hentered.mend ?_
  exact relay_kept_of_running (goStuck_keeps c p d).power hrun (by simp) fun _ => by simp [stateAllowed]

/-- An attempt that is confirmed or begins to wait drives CLOSE_DRIVE as before. -/
theorem setOperation_laws {d : Device} (hrun : running d = true) {p : Position} {a : Attempt}
    (hdrive : p = .closed → a.driving = true → closeDrive d = true) :
    keepsLaws [] d (d.setRelay { d.relay with state := operationState p a }) := by
  refine (setRelay_laws (d := d) (x := { d.relay with state := operationState p a }) rfl).mend ?_ |>.mend ?_
  · exact relay_kept_of_running rfl hrun (by cases p <;> simp [operationState])
      fun _ => by cases p <;> simp [operationState, stateAllowed]
  · intro h
    cases p
    · simp [closeDrive, operationState] at h
    · exact hdrive rfl h

theorem auxInOperation_laws {d : Device} (hrun : running d = true) {p : Position} {a : Attempt}
    (hst : d.relay.state = operationState p a) : keepsLaws [] d (auxInOperation p a d) := by
  unfold auxInOperation
  refine .ite (fun _ => .ite (fun _ => settle_laws hrun p) fun _ => .ite (fun _ => ?_) fun _ => .refl _ _) fun _ => .refl _ _
  refine .ite (fun hdriving => setOperation_laws hrun fun hp _ => ?_) fun _ => settle_laws hrun p
  subst hp
  simp only [closeDrive, hst, operationState]
  exact hdriving

theorem auxChanged_laws {d : Device} (hrun : running d = true) (before : Option Position) :
    keepsLaws [] d (auxChanged before d) := by
  unfold auxChanged
  refine .ite (fun _ => .refl _ _) fun _ => ?_
  split
  case h_1 hst => exact auxInOperation_laws hrun hst
  case h_2 hst => exact auxInOperation_laws hrun hst
  case h_3 => exact .ite (fun _ => settle_laws hrun _) fun _ => .refl _ _
  case h_4 => exact .refl _ _

theorem reconnectPress_laws {d : Device} (hrun : running d = true) : keepsLaws [.drive] d (reconnectPress d) := by
  unfold reconnectPress
  exact .ite (fun _ => startAttempt_laws hrun _ _) fun _ => .refl _ _

theorem endDrive_laws {d : Device} (hrun : running d = true) (p : Position) (a : Attempt) :
    keepsLaws [] d (endDrive p a d) := by
  unfold endDrive
  exact .ite (fun _ => settle_laws hrun p) fun _ => setOperation_laws hrun fun _ h => absurd h (by simp)

theorem endConfirmation_laws {d : Device} (hrun : running d = true) {p : Position} {a : Attempt}
    (hdriving : a.driving = false) : keepsLaws [] d (endConfirmation p a d) := by
  unfold endConfirmation
  exact .ite (fun _ => goStuck_laws hrun _ _) fun _ => .ite (fun _ => startAttempt_open_laws hrun _)
    fun _ => setOperation_laws hrun fun _ h => absurd (hdriving.symm.trans h) (by decide)

theorem endRetry_laws {d : Device} (hrun : running d = true) (p : Position) : keepsLaws [.drive] d (endRetry p d) := by
  unfold endRetry
  exact .ite (fun _ => (startAttempt_open_laws hrun _).mono) fun _ => startAttempt_laws hrun _ _

end Sys2Proof.Machine
end

section
/-! PROOFS. The laws that the operations of the Tamper Monitor and of the Account keep. -/

namespace Sys2Proof.Machine

/-! ### The sources -/

theorem exists_sourceNumber (i : Fin 8) : ∃ x, sourceNumber x = i := by
  fin_cases i
  exacts [⟨.case, rfl⟩, ⟨.terminalCover, rfl⟩, ⟨.magnet, rfl⟩, ⟨.bypass, rfl⟩,
    ⟨.reverse, rfl⟩, ⟨.ciuCase, rfl⟩,
    ⟨.ciuLink, rfl⟩, ⟨.metrology, rfl⟩]

/-- The entries of the eight sources are what the vector holds. -/
theorem mem_sources {d : Device} {e : SourceEntry} : e ∈ d.tamper.sources.toList ↔ ∃ x, sourceEntry d x = e := by
  constructor
  · intro h
    obtain ⟨i, hi, rfl⟩ := List.mem_iff_getElem.mp h
    have hi8 : i < 8 := by simpa using hi
    obtain ⟨x, hx⟩ := exists_sourceNumber ⟨i, hi8⟩
    exact ⟨x, by simp [sourceEntry, hx]⟩
  · rintro ⟨x, rfl⟩
    simp [sourceEntry]

/-- The TAMPER reason by the sources (R147). -/
theorem tamperReasonOf_iff (d : Device) :
    tamperReasonOf d = true ↔ ∃ x, (sourceEntry d x).latched = true ∧ (sourceEntry d x).action ≠ .log := by
  simp only [tamperReasonOf, List.any_eq_true, Bool.and_eq_true, bne_iff_ne, mem_sources]
  constructor
  · rintro ⟨_, ⟨x, rfl⟩, h⟩; exact ⟨x, h⟩
  · rintro ⟨x, h⟩; exact ⟨_, ⟨x, rfl⟩, h⟩

theorem sources_all_iff (d : Device) (p : SourceEntry → Bool) :
    d.tamper.sources.toList.all p = true ↔ ∀ x, p (sourceEntry d x) = true := by
  simp only [List.all_eq_true, mem_sources]
  constructor
  · intro h x; exact h _ ⟨x, rfl⟩
  · rintro h _ ⟨x, rfl⟩; exact h x

/-- An entry after another's update stands, and its own is the one set. -/
theorem sourceEntry_setSource_eq (s t : Source) (e : SourceEntry) (d : Device) :
    sourceEntry (setSource s e d) t = if t = s then e else sourceEntry d t := by
  split
  case isTrue h => subst h; exact sourceEntry_setSource t e d
  case isFalse h => exact sourceEntry_setSource_ne h e d

/-- The latching record of a latched source is held (R156). -/
theorem LogSound.record_held {d : Device} (h : LogSound d) (s : Source) (hl : (sourceEntry d s).latched = true) :
    ∀ n ∈ (sourceEntry d s).record, n ∈ heldNumbers d.log := by
  obtain ⟨_, _, _, _, _, _, _, hlatch⟩ := h
  exact hlatch _ (mem_sources.mpr ⟨s, rfl⟩) hl

/-- An entry takes new contents: in range, with its record held if it is latched. -/
theorem setSource_laws {d : Device} {s : Source} {e : SourceEntry}
    (hrange : entrySound (sourceEntry d s) = true → entrySound e = true)
    (hrecord : LogSound d → e.latched = true → ∀ n ∈ e.record, n ∈ heldNumbers d.log) :
    keepsLaws [.latches, .reasons] d (setSource s e d) := by
  refine ((setSource_keeps s e d).laws (L := [.tamper, .log, .latches, .reasons])).mend ?_ |>.mend ?_
  · rintro ⟨htable, hsources, hrest⟩
    refine ⟨htable, (sources_all_iff _ _).mpr fun x => ?_, hrest⟩
    rw [sources_all_iff] at hsources
    rw [sourceEntry_setSource_eq]
    split
    · exact hrange (hsources s)
    · exact hsources x
  · intro h
    have hrecord' := hrecord h
    obtain ⟨hlen, hasc, hbelow, hnext, hhost, hservice, hmark, hlatch⟩ := h
    refine ⟨hlen, hasc, hbelow, hnext, hhost, hservice, hmark, fun f hf hl n hn => ?_⟩
    obtain ⟨x, rfl⟩ := mem_sources.mp hf
    rw [sourceEntry_setSource_eq] at hl hn
    split at hl
    · rw [if_pos ‹_›] at hn; exact hrecord' hl n hn
    · rw [if_neg ‹_›] at hn; exact hlatch _ (mem_sources.mpr ⟨x, rfl⟩) hl n hn

/-- An entry that stays latched or not, with its record and action: no reason and no latch moves. -/
theorem setSource_count_laws {d : Device} {s : Source} {n : Nat} (hn : (sourceEntry d s).count ≤ 255 → n ≤ 255) :
    keepsLaws [] d (setSource s { sourceEntry d s with count := n } d) := by
  refine ((setSource_laws ?_ ?_).mend ?_).mend ?_
  · simp only [entrySound, Bool.and_eq_true, decide_eq_true_eq]
    exact fun h => ⟨hn h.1, h.2⟩
  · exact fun h => h.record_held s
  · intro x hx
    rw [sourceEntry_setSource_eq]
    split
    case isTrue h => subst h; exact hx
    case isFalse => exact hx
  · have hreason : tamperReasonOf (setSource s { sourceEntry d s with count := n } d) = tamperReasonOf d := by
      rw [Bool.eq_iff_iff, tamperReasonOf_iff, tamperReasonOf_iff]
      refine exists_congr fun x => ?_
      rw [sourceEntry_setSource_eq]
      split
      case isTrue h => subst h; rfl
      case isFalse => rfl
    intro late h hpart
    obtain ⟨hc, ha, ht⟩ := h hpart
    exact ⟨hc, ha, ht.trans hreason.symm⟩

theorem entrySound_count {e : SourceEntry} (h : entrySound e = true) : e.count ≤ 255 := by
  simp only [entrySound, Bool.and_eq_true, decide_eq_true_eq] at h
  exact h.1

/-! ### The reasons handed on -/

/-- TAMPER evaluated after changes of the Tamper Monitor alone: the reasons are their owners' again (R147). -/
theorem reasons_kept_evaluateTamper {d f : Device} (h : keepsBut [.tamper, .log, .host] d f) :
    Law.reasons.kept d (evaluateTamper f) := by
  have hk := evaluateTamper_keeps f
  intro late hd hpart
  obtain ⟨hcredit, haccount, _⟩ := hd (h.power ▸ hk.power ▸ hpart)
  rw [creditReasonOf_congr hk.power hk.account hk.settings hk.clock, accountReasonOf_congr hk.power,
    tamperReasonOf_congr hk.tamper, creditReasonOf_congr h.power h.account h.settings h.clock,
    accountReasonOf_congr h.power]
  simp only [evaluateTamper, setReason_reasons, h.relay]
  exact ⟨hcredit, haccount, rfl⟩

theorem evaluateTamper_laws (d : Device) : keepsLaws [.reasons] d (evaluateTamper d) :=
  keepsLaws.mend (keepsLaws.mono (setReasons_laws _ d)) (load_kept_setReasons rfl)

/-- The open-reason set but for CREDIT. -/
def creditAside (r : Reasons) : Reasons := { r with credit := false }

theorem recomputeCreditReason_aside (d : Device) :
    creditAside (recomputeCreditReason d).relay.reasons = creditAside d.relay.reasons := by
  unfold recomputeCreditReason
  split
  · rfl
  · rw [setReason_reasons]; rfl

theorem recomputeCredit_aside (d : Device) :
    creditAside (recomputeCredit d).relay.reasons = creditAside d.relay.reasons :=
  (recomputeCreditReason_aside _).trans (by rw [(recomputeCreditState_keeps d).relay])

/-- CREDIT recomputed after changes that leave the power, the Tamper Monitor and the other reasons (R39). -/
theorem reasons_kept_recompute_aside {d f : Device} (hp : f.power = d.power) (ht : f.tamper = d.tamper)
    (hr : creditAside f.relay.reasons = creditAside d.relay.reasons) :
    Law.reasons.kept d (recomputeCreditReason f) := by
  have hk := recomputeCreditReason_keeps f
  obtain ⟨_, htamper', _, _, _, haccount'⟩ := Reasons.mk.inj hr
  intro late hd hpart
  have hfpart : f.power.part ≠ .initializing := hk.power ▸ hpart
  obtain ⟨_, haccount, htamper⟩ := hd (hp ▸ hfpart)
  rw [creditReasonOf_congr hk.power hk.account hk.settings hk.clock, accountReasonOf_congr hk.power,
    tamperReasonOf_congr hk.tamper, tamperReasonOf_congr ht, accountReasonOf_congr hp, ← htamper, ← haccount,
    ← htamper', ← haccount']
  simp only [recomputeCreditReason, if_neg hfpart, setReason_reasons]
  exact ⟨.inl rfl, rfl, rfl⟩

/-- CREDIT recomputed after changes that touch neither the power nor the Tamper Monitor (R39). -/
theorem reasons_kept_recomputeCredit {d f : Device} (hp : f.power = d.power) (ht : f.tamper = d.tamper)
    (hr : f.relay = d.relay) : Law.reasons.kept d (recomputeCreditReason f) :=
  reasons_kept_recompute_aside hp ht (by rw [hr])

theorem recomputeCreditReason_laws (d : Device) : keepsLaws [] d (recomputeCreditReason d) := by
  refine keepsLaws.mend (L := []) ?_ (reasons_kept_recomputeCredit rfl rfl rfl)
  unfold recomputeCreditReason
  exact .ite (fun _ => .refl _ _)
    fun _ => keepsLaws.mend (keepsLaws.mono (setReasons_laws _ d)) (load_kept_setReasons rfl)

/-! ### Detections (R146) -/

/-- The entry that a source takes as it latches (R146, step 2). -/
def latchedEntry (s : Source) (d : Device) : SourceEntry :=
  { sourceEntry d s with
    latched := true, count := raiseCount (sourceEntry d s).count, firstTime := some (timeMark d),
    record := if d.log.next < Config.numberEnd then some d.log.next else none }

theorem latchSource_eq (s : Source) (detail : Option Byte) (d : Device) :
    latchSource s detail d
      = evaluateTamper (raiseNotice .tamper (setSource s (latchedEntry s d) (addRecord (.tamper s detail) d))) := rfl

theorem latchSource_laws (s : Source) (detail : Option Byte) (d : Device) :
    keepsLaws [] d (latchSource s detail d) := by
  have hset : keepsLaws [.reasons] (addRecord (.tamper s detail) d)
      (setSource s (latchedEntry s d)
        (addRecord (.tamper s detail) d)) := by
    have hentry := (addRecord_keeps (.tamper s detail) d).sourceEntry s
    refine (setSource_laws ?_ ?_).mend ?_
    · rw [hentry]
      intro h
      have hcount := raiseCount_le _ (entrySound_count h)
      simp [entrySound, latchedEntry, hcount]
    · intro _ _ n hn
      unfold latchedEntry at hn
      dsimp only at hn
      split at hn
      case isTrue hroom =>
        obtain rfl := Option.mem_some.mp hn
        simp [heldNumbers, addRecord_log hroom]
      case isFalse => cases hn
    · intro x hx
      rw [sourceEntry_setSource_eq]
      split
      · rfl
      · exact hx
  have hbefore := keepsBut_comp (n := [.tamper, .log, .host])
    (keepsBut_comp (n := [.tamper, .log, .host]) (addRecord_keeps (.tamper s detail) d)
      (setSource_keeps s (latchedEntry s d) _)) (raiseNotice_keeps .tamper _)
  rw [latchSource_eq]
  refine keepsLaws.mend (L := []) ?_ (reasons_kept_evaluateTamper hbefore)
  exact (((addRecord_laws _ d).mono.step hset).step (raiseNotice_laws _ _)).step (evaluateTamper_laws _)

theorem detect_laws (s : Source) (detail : Option Byte) (d : Device) : keepsLaws [] d (detect s detail d) := by
  have hcounted := setSource_count_laws (d := d) (s := s) (raiseCount_le _)
  unfold detect
  exact .ite (fun _ => hcounted.step (addRecord_laws _ _)) fun _ => .ite (fun _ => hcounted) fun _ => latchSource_laws _ _ _

/-- Unlatching leaves each entry in range and forgets its record. -/
theorem unlatchSource_laws (s : Source) (d : Device) : keepsLaws [.latches, .reasons] d (unlatchSource d s) :=
  setSource_laws (fun h => by simp [entrySound, entrySound_count h]) fun _ h => by cases h

/-- The one operation that unlatches (R149). -/
theorem clearTamper_laws (p : Nat) (d : Device) : keepsLaws [.latches] d (clearTamper p d) := by
  unfold clearTamper
  refine .ite (fun _ => .refl _ _) fun _ => ?_
  generalize (namedSources p).filter (fun s => (sourceEntry d s).latched) = unlatched
  have hbefore := keepsBut_comp (n := [.tamper, .log, .host])
    (keepsBut_comp (n := [.tamper, .log, .host]) (unlatchAll_keeps unlatched d)
      (addRecord_keeps (.tamperCleared p (sourceMask unlatched)) _)) (raiseNotice_keeps .tamper _)
  have hunlatched : keepsLaws [.reasons, .latches] d (unlatched.foldl unlatchSource d) :=
    (keepsLaws.refl _ d).foldl (fun e s => (unlatchSource_laws s e).mono) _
  exact (((hunlatched.step (addRecord_laws _ _)).step (raiseNotice_laws _ _)).step (evaluateTamper_laws _)).mend
    (reasons_kept_evaluateTamper hbefore)

/-- A written action: TAMPER is evaluated where it can move (R145). -/
theorem writeAction_laws (s : Source) (a : SourceAction) (d : Device) : keepsLaws [] d (writeAction s a d) := by
  have hset : keepsLaws [.reasons] d (setSource s { sourceEntry d s with action := a } d) := by
    refine (setSource_laws (e := { sourceEntry d s with action := a }) id fun h => h.record_held s).mend ?_
    intro x hx
    rw [sourceEntry_setSource_eq]
    split
    case isTrue h => subst h; exact hx
    case isFalse => exact hx
  unfold writeAction
  refine .ite (fun _ => ?_) fun hunlatched => hset.mend ?_
  · exact keepsLaws.mend (hset.step (evaluateTamper_laws _))
      (reasons_kept_evaluateTamper (keepsBut_mono (setSource_keeps s _ d) (by decide)))
  · have hreason : tamperReasonOf (setSource s { sourceEntry d s with action := a } d) = tamperReasonOf d := by
      rw [Bool.eq_iff_iff, tamperReasonOf_iff, tamperReasonOf_iff]
      refine exists_congr fun x => ?_
      rw [sourceEntry_setSource_eq]
      split
      case isTrue h => subst h; simp [hunlatched]
      case isFalse => rfl
    intro late h hpart
    obtain ⟨hc, ha, ht⟩ := h hpart
    exact ⟨hc, ha, ht.trans hreason.symm⟩

/-! ### The account -/

/-- The amounts of an account are in their ranges (R23). -/
def AmountsInRange (a : Account) : Prop :=
  -99999999 ≤ a.balance ∧ a.balance ≤ 99999999 ∧ a.debt ≤ 99999999 ∧ a.emergency ≤ 9999999
    ∧ a.recoveryPercent ≤ 100 ∧ a.purchased ≤ 999999999999 ∧ a.charged ≤ 999999999999

theorem AccountSound.amounts {d : Device} (h : AccountSound d) : AmountsInRange d.account := by
  obtain ⟨h1, h2, h3, h4, h5, h6, h7, _⟩ := h
  exact ⟨h1, h2, h3, h4, h5, h6, h7⟩

/-- Soundness of the account after a change of the account alone that recomputes the credit state. -/
theorem account_kept_of_amounts {d e : Device} {a : Account}
    (he : e.account = { a with creditState := creditStateOf a.balance d.settings.lowLevel })
    (hs : e.settings = d.settings) (hres : d.residue < 10000 → e.residue < 10000)
    (ha : AccountSound d → AmountsInRange a) : Law.account.kept d e := by
  intro h
  obtain ⟨k1, k2, k3, k4, k5, k6, k7⟩ := ha h
  obtain ⟨_, _, _, _, _, _, _, _, h9, hsettings⟩ := h
  unfold AccountSound
  rw [he, hs]
  exact ⟨k1, k2, k3, k4, k5, k6, k7, rfl, hres h9, hsettings⟩

theorem recomputeCreditState_laws (d : Device) : keepsLaws [.account, .reasons] d (recomputeCreditState d) := by
  unfold recomputeCreditState
  exact .ite (fun _ => .refl _ _) fun _ =>
    (((setAccount_keeps d _).laws.step (addRecord_laws _ _)).step (raiseNotice_laws _ _))

/-- The credit state and then CREDIT: CREDIT is its owner's again where neither power nor tamper state moved before. -/
theorem recomputeCredit_laws {d f : Device} (h : keepsLaws [.account, .reasons] d f) (hp : f.power = d.power)
    (ht : f.tamper = d.tamper) (hr : f.relay = d.relay) (ha : Law.account.kept d (recomputeCredit f)) :
    keepsLaws [] d (recomputeCredit f) := by
  have hk := recomputeCreditState_keeps f
  have hlaws : keepsLaws [.account, .reasons] d (recomputeCredit f) :=
    (h.step (recomputeCreditState_laws f)).step (recomputeCreditReason_laws _)
  exact (hlaws.mend ha).mend
    (reasons_kept_recomputeCredit (hk.power.trans hp) (hk.tamper.trans ht) (hk.relay.trans hr))

theorem rollLifetime_le (n k : Nat) : rollLifetime n k ≤ 999999999999 := by
  have := Nat.mod_lt (n + k) (show 0 < Config.lifetimeTop + 1 by decide)
  simp only [rollLifetime, Config.lifetimeTop] at this ⊢
  omega

theorem debit_aside (k : Nat) (w : DebitReason) (d : Device) :
    creditAside (debit k w d).relay.reasons = creditAside d.relay.reasons := by
  unfold debit
  split
  · rfl
  · rw [recomputeCredit_aside, (recordDiscard_keeps _ _ _).relay]; rfl

theorem debitedAccount_inRange {a : Account} (h : AmountsInRange a) (k : Nat) :
    AmountsInRange (debitedAccount k a) := by
  obtain ⟨h1, h2, h3, h4, h5, h6, h7⟩ := h
  unfold debitedAccount
  dsimp only
  split
  case isTrue hbears =>
    simp only [Config.moneyTop] at hbears
    exact ⟨by simpa using hbears, by simp only; omega, h3, h4, h5, h6, rollLifetime_le _ _⟩
  case isFalse =>
    exact ⟨by simp, by simp, Nat.min_le_right _ _, h4, h5, h6, rollLifetime_le _ _⟩

theorem debit_laws (k : Nat) (w : DebitReason) (d : Device) : keepsLaws [] d (debit k w d) := by
  by_cases hk : k = 0
  · rw [hk, debit_zero]; exact .refl _ _
  have hframe := debit_keeps k w d
  have haccount := debit_account hk w d
  have hbefore := keepsBut_comp (n := [.account, .log, .host]) (setAccount_keeps d (debitedAccount k d.account))
    (recordDiscard_keeps (debitExcess k d.account) w _)
  rw [debit, if_neg hk] at hframe haccount ⊢
  refine recomputeCredit_laws ((setAccount_keeps d _).laws.step (recordDiscard_laws _ _ _)) hbefore.power
    hbefore.tamper hbefore.relay ?_
  exact account_kept_of_amounts haccount hframe.settings (fun h => hframe.residue ▸ h)
    fun h => debitedAccount_inRange h.amounts k

/-- The admission test bounds the balance that a top-up leaves (R30). -/
theorem toppedUp_inRange {a : Account} (h : AmountsInRange a) {n : Nat} (hadmit : creditRefusal n a = none) :
    AmountsInRange (toppedUpAccount n a) := by
  obtain ⟨h1, h2, h3, h4, h5, h6, h7⟩ := h
  unfold creditRefusal at hadmit
  split at hadmit
  · cases hadmit
  split at hadmit
  · cases hadmit
  case isFalse hlimit =>
    simp only [Config.moneyTop] at hlimit
    exact ⟨by simp only [toppedUpAccount]; omega, by simp only [toppedUpAccount]; omega,
      le_trans (Nat.sub_le _ _) h3, le_trans (Nat.sub_le _ _) h4, h5, rollLifetime_le _ _, h7⟩

theorem topUp_laws {n : Nat} {d : Device} (hadmit : creditRefusal n d.account = none) : keepsLaws [] d (topUp n d) := by
  have hframe := topUp_keeps n d
  refine recomputeCredit_laws (setAccount_keeps d _).laws rfl rfl rfl ?_
  exact account_kept_of_amounts (topUp_account n d) hframe.settings (fun h => hframe.residue ▸ h)
    fun h => toppedUp_inRange h.amounts hadmit

@[simp] theorem emergencyTake_account (d : Device) :
    (emergencyTake d).account
      = { d.account with
          balance := d.account.balance + d.settings.emergencyAmount, emergency := d.settings.emergencyAmount,
          creditState := creditStateOf (d.account.balance + d.settings.emergencyAmount) d.settings.lowLevel } := by
  simp [emergencyTake, (addRecord_keeps _ _).account, (addRecord_keeps _ _).settings]

/-- Emergency credit is taken below the threshold, so the balance stays in range (R32). -/
theorem emergencyTake_laws {d : Device} (haccepted : emergencyOutcome d = .accepted) :
    keepsLaws [] d (emergencyTake d) := by
  have hframe := emergencyTake_keeps d
  have hbefore := keepsBut_comp (n := [.account, .log, .host])
    (setAccount_keeps d { d.account with
      balance := d.account.balance + d.settings.emergencyAmount, emergency := d.settings.emergencyAmount })
    (addRecord_keeps (.emergencyTaken d.settings.emergencyAmount
      (d.account.balance + d.settings.emergencyAmount)) _)
  refine recomputeCredit_laws ((setAccount_keeps d _).laws.step (addRecord_laws _ _)) hbefore.power hbefore.tamper
    hbefore.relay ?_
  refine account_kept_of_amounts
    (a := { d.account with
      balance := d.account.balance + d.settings.emergencyAmount, emergency := d.settings.emergencyAmount })
    (emergencyTake_account d) hframe.settings (fun h => hframe.residue ▸ h) fun h => ?_
  have hthreshold : d.account.balance < d.settings.emergencyThreshold := by
    unfold emergencyOutcome at haccepted
    repeat' split at haccepted
    all_goals cases haccepted
    omega
  obtain ⟨h1, h2, h3, h4, h5, h6, h7, _, _, _, h11, h12, _⟩ := h
  simp only [Config.moneyTop, Config.amountTop] at h1 h11 h12
  exact ⟨by simp only; omega, by simp only; omega, h3, h11, h5, h6, h7⟩

theorem debtSet_laws {v p : Nat} (hp : p ≤ 100) (d : Device) : keepsLaws [] d (debtSet v p d) := by
  refine keepsLaws.step (M := []) ?_ (recordDiscard_laws _ _ _)
  refine ((setAccount_keeps d _).laws (L := [.account, .reasons])).mend ?_ |>.mend fun _ => id
  rintro ⟨h1, h2, _, h4, _, hrest⟩
  exact ⟨h1, h2, Nat.min_le_right _ _, h4, hp, hrest⟩

@[simp] theorem clearAccount_account (d : Device) :
    (clearAccount d).account
      = { d.account with balance := 0, emergency := 0, debt := 0, creditState := .exhausted } := by
  simp [clearAccount, raiseNotice, creditStateOf]

theorem clearAccount_keeps (d : Device) :
    keepsBut [.account, .residue, .relay, .log, .host] d (clearAccount d) :=
  keepsBut_comp (keepsBut_comp (n := [.account, .residue, .relay, .log, .host])
    (keepsBut_comp (n := [.account, .residue, .relay, .log, .host])
      (keepsBut_comp (n := [.account, .residue, .relay, .log, .host]) (addRecord_keeps _ d) (setAccount_keeps _ _))
      (setResidue_keeps _ _)) (recomputeCredit_keeps _)) (raiseNotice_keeps _ _)

theorem clearAccount_residue (d : Device) : (clearAccount d).residue = 0 :=
  (recomputeCredit_keeps _).residue

theorem clearAccount_laws (d : Device) : keepsLaws [] d (clearAccount d) := by
  refine keepsLaws.step (M := []) ?_ (raiseNotice_laws .account _)
  have hrec := addRecord_keeps (.accountCleared d.account.balance d.account.debt) d
  refine recomputeCredit_laws ?_ hrec.power hrec.tamper hrec.relay ?_
  · exact ((keepsLaws.mono (addRecord_laws _ d)).step ((setAccount_keeps _ _).laws (L := [.account, .reasons]))).step
      ((setResidue_keeps _ 0).laws (L := [.account]))
  · refine account_kept_of_amounts (a := { d.account with balance := 0, emergency := 0, debt := 0 }) ?_
      (clearAccount_keeps d).settings (fun _ => (clearAccount_residue d).symm ▸ by decide) fun h => ?_
    · exact (clearAccount_account d).trans (by simp [creditStateOf])
    · obtain ⟨_, _, _, _, h5, h6, h7⟩ := h.amounts
      exact ⟨by simp, by simp, by simp, by simp, h5, h6, h7⟩

end Sys2Proof.Machine
end

section
/-! PROOFS. The laws that meter time, the tariffs, the Load Monitor, the meter test and the pulses keep. -/

namespace Sys2Proof.Machine

/-! ### The meter test and the service window -/

/-- A change of the intake away from the test and the tamper accumulators. -/
theorem setIntake_laws {d : Device} {x : Intake} (hactive : x.testActive = d.intake.testActive)
    (htimer : x.testTimer = d.intake.testTimer) (hopen : TamperSound d → x.openEnergy ≤ 255)
    (hreverse : TamperSound d → x.reverse ≤ 255) : keepsLaws [] d (d.setIntake x) := by
  refine ((setIntake_keeps d x).laws (L := [.test, .tamper])).mend ?_ |>.mend ?_
  · simp only [Law.kept, TestUpTo, Device.setIntake_intake, hactive, htimer]; exact fun _ => id
  · intro h
    have ho := hopen h
    have hr := hreverse h
    obtain ⟨h1, h2, h3, h4, h5, h6, _, _⟩ := h
    exact ⟨h1, h2, h3, h4, h5, h6, ho, hr⟩

theorem TamperSound.openEnergy {d : Device} (h : TamperSound d) : d.intake.openEnergy ≤ 255 := by
  obtain ⟨_, _, _, _, _, _, h, _⟩ := h
  exact h

theorem TamperSound.reverse {d : Device} (h : TamperSound d) : d.intake.reverse ≤ 255 := by
  obtain ⟨_, _, _, _, _, _, _, h⟩ := h
  exact h

/-- Without a test, the test's law asks for the range of the window alone. -/
theorem test_kept_of_inactive {d e : Device} (hactive : e.intake.testActive = false)
    (hwindow : d.codes.windowMinutes ≤ 240 → e.codes.windowMinutes ≤ 240) : Law.test.kept d e :=
  fun _ h => ⟨hwindow h.1, fun h' => absurd (hactive.symm.trans h') (by decide)⟩

theorem endTest_laws (c : TestCause) (d : Device) : keepsLaws [] d (endTest c d) := by
  have hover : keepsLaws [] d (d.setIntake { d.intake with testActive := false }) :=
    ((setIntake_keeps d { d.intake with testActive := false }).laws (L := [.test, .tamper])).mend
      (test_kept_of_inactive rfl id) |>.mend id
  unfold endTest
  exact .ite (fun _ => hover.step (addRecord_laws _ _)) fun _ => .refl _ _

/-- A change of the Code Checker away from its queue and its list. -/
theorem setCodes_window_laws {d : Device} {x : Codes} (hqueue : x.queue = d.codes.queue)
    (hcheck : x.inCheck = d.codes.inCheck) (hticket : x.nextTicket = d.codes.nextTicket)
    (hused : x.used = d.codes.used) (hfloor : x.floor = d.codes.floor) : keepsLaws [.test] d (d.setCodes x) := by
  refine ((setCodes_keeps d x).laws (L := [.queue, .used, .spent, .test])).mend ?_ |>.mend ?_ |>.mend ?_
  · simp only [Law.kept, QueueSound, keypadCodes, Device.setCodes_codes, hqueue, hcheck, hticket]; exact id
  · simp only [Law.kept, UsedSound, usedIssues, Device.setCodes_codes, hused, hfloor]; exact id
  · simp only [Law.kept, UsedSound, issueSpent, usedIssues, Device.setCodes_codes, hused, hfloor]
    exact fun h => ⟨h, fun _ => id⟩

/-- The window ends, and a running test with it (R90). -/
theorem closeWindow_laws (d : Device) : keepsLaws [] d (closeWindow d) := by
  have hcodes : keepsLaws [.test] d (d.setCodes { d.codes with windowMinutes := 0 }) :=
    setCodes_window_laws rfl rfl rfl rfl rfl
  refine (hcodes.step (endTest_laws _ _)).mend (test_kept_of_inactive (endTest_over _ _) fun _ => ?_)
  have hframe := endTest_keeps .window (d.setCodes { d.codes with windowMinutes := 0 })
  rw [hframe.codes]
  exact Nat.zero_le _

/-- An open window of another length, still open and in its range. -/
theorem setWindow_laws {d : Device} {n : Nat} (hpos : 0 < n) (hn : d.codes.windowMinutes ≤ 240 → n ≤ 240) :
    keepsLaws [] d (d.setCodes { d.codes with windowMinutes := n }) := by
  refine (setCodes_window_laws (d := d) (x := { d.codes with windowMinutes := n }) rfl rfl rfl rfl rfl).mend ?_
  intro bound h
  refine ⟨hn h.1, fun hactive => ?_⟩
  obtain ⟨hrun, hpart, _, htimer⟩ := h.2 hactive
  exact ⟨hrun, hpart, hpos, htimer⟩

theorem serviceOpen_laws (m : Nat) (d : Device) : keepsLaws [] d (serviceOpen m d) := by
  unfold serviceOpen
  refine .ite (fun hm => ?_) fun _ => .ite (fun _ => closeWindow_laws d) fun _ => .refl _ _
  exact setWindow_laws (by simp; omega) fun _ => Nat.min_le_right _ _

theorem windowMinute_laws (d : Device) : keepsLaws [] d (windowMinute d) := by
  unfold windowMinute
  refine .ite (fun _ => .refl _ _) fun h0 => .ite (fun _ => closeWindow_laws d) fun h1 => ?_
  exact setWindow_laws (by omega) fun h => le_trans (Nat.sub_le _ _) h

theorem windowMinute_keeps (d : Device) : keepsBut [.codes, .intake, .log, .host] d (windowMinute d) := by
  unfold windowMinute
  split
  · exact keepsBut_refl _ _
  split
  · exact closeWindow_keeps d
  · exact keepsBut_mono (setCodes_keeps d _) (by decide)

/-! ### Day processing and tariffs -/

/-- Day processing on a day later than the last charged, written out (R53). -/
theorem dayProcessing_due {d : Device} {last : Nat} (hset : d.clock.isSet = true)
    (hlast : d.clock.lastCharged = some last) (hdue : last < d.clock.now.day) :
    ∃ f, keepsBut [.account, .relay, .log, .host] d f ∧ keepsLaws [] d f
      ∧ f.account
        = ((debit d.tariffs.active.standing .standing)^[min (d.clock.now.day - last) Config.chargedDays] d).account
      ∧ dayProcessing d
        = (f.setIntake { d.intake with reverse := 0 }).setClock { d.clock with lastCharged := some d.clock.now.day } := by
  have hcharged := debits_keep (min (d.clock.now.day - last) Config.chargedDays) d.tariffs.active.standing .standing d
  have hlaws : keepsLaws [] d
      ((debit d.tariffs.active.standing .standing)^[min (d.clock.now.day - last) Config.chargedDays] d) :=
    (keepsLaws.refl [] d).iterate (fun e => debit_laws _ _ e) _
  simp only [dayProcessing, hset, hlast, if_neg (Nat.not_le.mpr hdue)]
  split
  · have hnoted := keepsBut_comp (n := [.account, .relay, .log, .host]) hcharged
      (addRecord_keeps (.daysForgone (d.clock.now.day - last - Config.chargedDays) d.clock.now.day) _)
    refine ⟨_, hnoted, hlaws.step (addRecord_laws _ _), (addRecord_keeps _ _).account, ?_⟩
    simp only [hnoted.intake, Device.setIntake_clock, hnoted.clock, hset]
  · refine ⟨_, hcharged, hlaws, rfl, ?_⟩
    simp only [hcharged.intake, Device.setIntake_clock, hcharged.clock, hset]

/-- Day processing changes nothing where time is UNSET, or no day is owed. -/
theorem dayProcessing_not_due {d : Device}
    (h : ¬ ∃ last, d.clock.isSet = true ∧ d.clock.lastCharged = some last ∧ last < d.clock.now.day) :
    dayProcessing d = d := by
  unfold dayProcessing
  split
  case h_1 last hset hlast =>
    exact if_pos (Nat.not_lt.mp fun hdue => h ⟨last, hset, hlast, hdue⟩)
  case h_2 => rfl

theorem dayProcessing_cases (d : Device) :
    dayProcessing d = d ∨ ∃ f, keepsBut [.account, .relay, .log, .host] d f ∧ keepsLaws [] d f ∧ d.clock.isSet = true
      ∧ d.clock.lastCharged.isSome = true
      ∧ dayProcessing d
        = (f.setIntake { d.intake with reverse := 0 }).setClock { d.clock with lastCharged := some d.clock.now.day } := by
  by_cases h : ∃ last, d.clock.isSet = true ∧ d.clock.lastCharged = some last ∧ last < d.clock.now.day
  · obtain ⟨last, hset, hlast, hdue⟩ := h
    obtain ⟨f, hf, hlaws, _, heq⟩ := dayProcessing_due hset hlast hdue
    exact .inr ⟨f, hf, hlaws, hset, by simp [hlast], heq⟩
  · exact .inl (dayProcessing_not_due h)

theorem dayProcessing_clock (d : Device) :
    (dayProcessing d).clock.now = d.clock.now ∧ (dayProcessing d).clock.isSet = d.clock.isSet := by
  rcases dayProcessing_cases d with h | ⟨f, _, _, _, _, h⟩ <;> rw [h]
  · exact ⟨rfl, rfl⟩
  · exact ⟨rfl, rfl⟩

/-- The day charged last is a day that meter time is at. -/
theorem setLastCharged_laws {d : Device} {n : Nat} (hset : d.clock.isSet = true)
    (hn : n ≤ Config.lastDay ∨ n = d.clock.now.day) :
    keepsLaws [] d (d.setClock { d.clock with lastCharged := some n }) := by
  refine ((setClock_keeps d _).laws (L := [.clock, .reasons])).mend ?_ |>.mend fun _ => id
  rintro ⟨hday, hsecond, _, _⟩
  refine ⟨hday, hsecond, by simp [hset], fun day hd => ?_⟩
  obtain rfl := Option.mem_some.mp hd
  rcases hn with hn | rfl
  · exact hn
  · exact hday

/-- A run of day processing debits, and CREDIT alone of the reasons follows the balance. -/
theorem dayProcessing_aside (d : Device) :
    creditAside (dayProcessing d).relay.reasons = creditAside d.relay.reasons := by
  have hdebits : ∀ n e, creditAside ((debit d.tariffs.active.standing .standing)^[n] e).relay.reasons
      = creditAside e.relay.reasons := by
    intro n
    induction n with
    | zero => exact fun _ => rfl
    | succ n ih => exact fun e => (ih _).trans (debit_aside _ _ e)
  unfold dayProcessing
  split
  case h_2 => rfl
  dsimp only
  split
  · rfl
  dsimp only [Device.setClock_relay, Device.setIntake_relay]
  split
  · rw [addRecord_relay]; exact hdebits _ d
  · exact hdebits _ d

theorem dayProcessing_laws (d : Device) : keepsLaws [] d (dayProcessing d) := by
  rcases dayProcessing_cases d with h | ⟨f, hf, hlaws, hset, _, h⟩ <;> rw [h]
  · exact .refl _ _
  have hintake : keepsLaws [] f (f.setIntake { f.intake with reverse := 0 }) :=
    setIntake_laws rfl rfl TamperSound.openEnergy fun _ => Nat.zero_le _
  have hclock := setLastCharged_laws (d := f.setIntake { f.intake with reverse := 0 }) (n := f.clock.now.day)
    (hf.clock ▸ hset) (.inr rfl)
  rw [← hf.intake, ← hf.clock]
  exact (hlaws.step hintake).step hclock

theorem activationTest_laws (d : Device) : keepsLaws [] d (activationTest d) := by
  unfold activationTest
  split
  case h_1 p hp =>
    refine .ite (fun _ => ?_) fun _ => .refl _ _
    have hset : keepsLaws [] d (d.setTariffs { active := p.tariff, pending := none }) :=
      ((setTariffs_keeps d _).laws (L := [.tariffs])).mend fun h => ⟨h.2 p hp, by simp⟩
    exact (hset.step (addRecord_laws _ _)).step (raiseNotice_laws _ _)
  case h_2 => exact .refl _ _

theorem confirmTariff_laws (d : Device) : keepsLaws [] d (confirmTariff d) := by
  unfold confirmTariff
  split
  case h_1 => exact .refl _ _
  case h_2 p hp =>
    have hset : keepsLaws [] d (d.setTariffs { d.tariffs with pending := some { p with confirmed := true } }) :=
      ((setTariffs_keeps d _).laws (L := [.tariffs])).mend fun h =>
        ⟨h.1, fun q hq => by obtain rfl := Option.mem_some.mp hq; exact h.2 p hp⟩
    exact (hset.step (raiseNotice_laws _ _)).step (activationTest_laws _)

/-- A pending tariff of a valid record, or none. -/
theorem setPending_laws {d : Device} {x : Option PendingTariff} (hx : ∀ p ∈ x, validTariff p.tariff = true) :
    keepsLaws [] d (d.setTariffs { d.tariffs with pending := x }) :=
  ((setTariffs_keeps d _).laws (L := [.tariffs])).mend fun h => ⟨h.1, hx⟩

/-! ### The Load Monitor -/

/-- Slots in their range: the Load Monitor's law looks no further at them. -/
theorem setSlots_laws {d : Device} {v : Vector Nat 12}
    (hv : (∀ n ∈ d.load.slots.toList, n ≤ 65535) → ∀ n ∈ v.toList, n ≤ 65535) :
    keepsLaws [] d (d.setLoad { d.load with slots := v }) := by
  refine ((setLoad_keeps d _).laws (L := [.load])).mend ?_
  rintro late ⟨hslots, hrest⟩
  exact ⟨hv hslots, hrest⟩

theorem zeroDemand_laws (d : Device) : keepsLaws [] d (zeroDemand d) :=
  setSlots_laws fun _ n hn => by
    obtain rfl : n = 0 := by simpa using hn
    decide

theorem countDemand_laws (d : Device) : keepsLaws [] d (countDemand d) := by
  refine setSlots_laws fun h n hn => ?_
  rw [Vector.toList_set] at hn
  rcases List.mem_or_eq_of_mem_set hn with hmem | rfl
  · exact h n hmem
  · have h11 : d.load.slots[11] ≤ 65535 := h _ (by simp)
    split
    · exact Nat.succ_le_of_lt ‹_›
    · exact h11

theorem addTrip_length {t : Nat} {l : List Nat} (h : l.length ≤ 3) : (addTrip t l).length ≤ 3 := by
  unfold addTrip
  split
  case isTrue hroom => simpa using Nat.succ_le_of_lt hroom
  case isFalse => simp; omega

theorem backoffOf_range (l : List Nat) : backoffOf l = 1800 ∨ backoffOf l = 60 := by
  unfold backoffOf
  split
  · split
    · exact .inl rfl
    · exact .inr rfl
  · exact .inr rfl

@[simp] theorem loadTrip_load (d : Device) :
    (loadTrip d).load
      = { d.load with
          slots := Vector.replicate 12 0, history := addTrip (timeSeconds d.clock.now) d.load.history,
          backoff := backoffOf (addTrip (timeSeconds d.clock.now) d.load.history) } := by
  simp [loadTrip, zeroDemand, (addRecord_keeps _ _).load, (setReason_keeps _ _ _).load]

@[simp] theorem loadTrip_reasons (d : Device) :
    (loadTrip d).relay.reasons = d.relay.reasons.put .load true := by
  simp [loadTrip, zeroDemand]

/-- A trip begins a backoff, and LOAD is in the set with it (R130). -/
theorem loadTrip_laws (d : Device) : keepsLaws [] d (loadTrip d) := by
  have hlaws : keepsLaws [.load] d (loadTrip d) :=
    (((setReason_load_laws true d).step (addRecord_laws _ _)).step ((setLoad_keeps _ _).laws (L := [.load]))).step
      (zeroDemand_laws _)
  refine hlaws.mend ?_
  rintro late ⟨_, hlimit, hpending, _, hhistory, _⟩
  unfold LoadBut
  rw [loadTrip_load, loadTrip_reasons]
  refine ⟨fun n hn => ?_, hlimit, hpending, ?_, addTrip_length hhistory, .inl ?_⟩
  · obtain rfl : n = 0 := by simpa using hn
    decide
  all_goals
    dsimp only
    rcases backoffOf_range (addTrip (timeSeconds d.clock.now) d.load.history) with h | h <;> rw [h] <;> simp [Reasons.put]

theorem shiftSlots_toList (l : Load) : (shiftSlots l).slots.toList = l.slots.toList.drop 1 ++ [0] := by
  apply List.ext_getElem
  · simp [shiftSlots]
  · intro i h1 h2
    simp only [shiftSlots, Vector.toList_ofFn, List.getElem_ofFn, List.getElem_append, List.length_drop,
      Vector.length_toList, List.getElem_drop, Vector.getElem_toList]
    split
    · rw [dif_pos (by omega)]; simp [Nat.add_comm]
    · rw [dif_neg (by omega)]; simp

theorem shiftSlots_laws (d : Device) : keepsLaws [] d (d.setLoad (shiftSlots d.load)) := by
  refine setSlots_laws (d := d) (v := (shiftSlots d.load).slots) fun h n hn => ?_
  rw [shiftSlots_toList] at hn
  rcases List.mem_append.mp hn with hn | hn
  · exact h n (List.mem_of_mem_drop hn)
  · obtain rfl := List.mem_singleton.mp hn
    decide

theorem takeLimit_laws (d : Device) : keepsLaws [] d (d.setLoad (takeLimit d.load)) := by
  refine ((setLoad_keeps d _).laws (L := [.load])).mend ?_
  rintro late ⟨h1, h2, h3, hrest⟩
  unfold LoadBut
  rw [Device.setLoad_load]
  unfold takeLimit
  split
  case h_1 w hw => exact ⟨h1, (h3 w hw).2, by simp, hrest⟩
  case h_2 => exact ⟨h1, h2, h3, hrest⟩

/-- The test of a slot boundary: the meter trips, or the demand window stands (R129). -/
def slotTested (d : Device) : Device :=
  if 0 < d.load.limit ∧ d.load.limit < 6 * slotSum d.load then loadTrip d else d

theorem slotStep_eq (d : Device) :
    slotStep d = (slotTested (d.setLoad (takeLimit d.load))).setLoad
      (shiftSlots (slotTested (d.setLoad (takeLimit d.load))).load) := rfl

theorem slotTested_laws (d : Device) : keepsLaws [] d (slotTested d) := by
  unfold slotTested
  exact .ite (fun _ => loadTrip_laws d) fun _ => .refl _ _

theorem slotStep_laws (d : Device) : keepsLaws [] d (slotStep d) := by
  rw [slotStep_eq]
  exact ((takeLimit_laws d).step (slotTested_laws _)).step (shiftSlots_laws _)

/-- A limit written: 0 ends the backoff, and LOAD leaves the set with it (R132). -/
theorem writeLimit_laws {w : Nat} (hw : w ≤ 99999) (d : Device) : keepsLaws [] d (writeLimit w d) := by
  unfold writeLimit
  refine .ite (fun hpos => ?_) fun _ => ?_
  · refine ((setLoad_keeps d _).laws (L := [.load])).mend ?_
    rintro late ⟨h1, h2, _, hrest⟩
    exact ⟨h1, h2, fun v hv => by obtain rfl := Option.mem_some.mp hv; exact ⟨hpos, hw⟩, hrest⟩
  · have hset : keepsLaws [.load] d (d.setLoad { d.load with limit := 0, pendingLimit := none, backoff := 0 }) :=
      (setLoad_keeps d _).laws
    refine (hset.step (setReason_load_laws false _)).mend ?_
    rintro late ⟨h1, _, _, _, h5, _⟩
    unfold LoadBut
    rw [(setReason_keeps _ _ _).load, setReason_reasons]
    exact ⟨h1, Nat.zero_le _, by simp, Nat.zero_le _, h5, .inl rfl⟩

/-! ### Setting meter time -/

/-- The processing of an accepted SET_TIME after the time has moved (R51): from UNSET the day is the last charged, and
from SET the days owed are charged. -/
def setProcessed (new : MeterTime) (d : Device) : Device :=
  let cleared := zeroDemand (addRecord (.timeSet (timeMark d) new) (d.setClock { d.clock with now := new, isSet := true }))
  if d.clock.isSet then dayProcessing cleared
  else cleared.setClock { d.clock with now := new, isSet := true, lastCharged := some new.day }

theorem applySetTime_eq (new : MeterTime) (d : Device) :
    applySetTime new d = recomputeCreditReason (activationTest (setProcessed new d)) := by
  have hclock : (zeroDemand (addRecord (.timeSet (timeMark d) new)
      (d.setClock { d.clock with now := new, isSet := true }))).clock = { d.clock with now := new, isSet := true } :=
    (addRecord_keeps _ _).clock
  unfold applySetTime setProcessed
  dsimp only
  cases hset : d.clock.isSet
  case false =>
    have hmark : timeMark d = none := by simp [timeMark, hset]
    rw [hmark] at hclock ⊢
    dsimp only
    rw [hclock, if_neg (by decide)]
  case true =>
    have hmark : timeMark d = some d.clock.now := by simp [timeMark, hset]
    rw [hmark, if_pos rfl]

/-- What the processing of a set time leaves: the time given, SET, the demand window zero. -/
theorem setProcessed_frame (new : MeterTime) (d : Device) :
    keepsBut [.clock, .load, .account, .intake, .relay, .log, .host] d (setProcessed new d)
      ∧ (setProcessed new d).clock.now = new ∧ (setProcessed new d).clock.isSet = true
      ∧ (setProcessed new d).load.slots = Vector.replicate 12 0
      ∧ ((setProcessed new d).clock.lastCharged = some new.day
          ∨ d.clock.isSet = true ∧ (setProcessed new d).clock.lastCharged = d.clock.lastCharged)
      ∧ creditAside (setProcessed new d).relay.reasons = creditAside d.relay.reasons := by
  have hmoved : keepsBut [.clock, .load, .log, .host] d
      (zeroDemand (addRecord (.timeSet (timeMark d) new) (d.setClock { d.clock with now := new, isSet := true }))) :=
    keepsBut_comp (keepsBut_comp (n := [.clock, .load, .log, .host]) (setClock_keeps d _) (addRecord_keeps _ _))
      (zeroDemand_keeps _)
  have hclock : (zeroDemand (addRecord (.timeSet (timeMark d) new)
      (d.setClock { d.clock with now := new, isSet := true }))).clock = { d.clock with now := new, isSet := true } :=
    (addRecord_keeps _ _).clock
  unfold setProcessed
  dsimp only
  split
  case isTrue hset =>
    have hp := dayProcessing_keeps (zeroDemand (addRecord (.timeSet (timeMark d) new)
      (d.setClock { d.clock with now := new, isSet := true })))
    have hc := dayProcessing_clock (zeroDemand (addRecord (.timeSet (timeMark d) new)
      (d.setClock { d.clock with now := new, isSet := true })))
    refine ⟨keepsBut_comp hmoved hp, ?_⟩
    rw [hp.load, hc.1, hc.2, hclock, dayProcessing_aside, hmoved.relay]
    refine ⟨rfl, rfl, rfl, ?_, rfl⟩
    rcases dayProcessing_cases (zeroDemand (addRecord (.timeSet (timeMark d) new)
      (d.setClock { d.clock with now := new, isSet := true }))) with h | ⟨f, _, _, _, _, h⟩ <;> rw [h]
    · rw [hclock]; exact .inr ⟨hset, rfl⟩
    · rw [Device.setClock_clock, hclock]; exact .inl rfl
  case isFalse =>
    refine ⟨keepsBut_comp hmoved (setClock_keeps _ _), rfl, rfl, rfl, .inl rfl, ?_⟩
    rw [Device.setClock_relay, hmoved.relay]

/-- Setting meter time to a time in its range. -/
theorem applySetTime_laws {new : MeterTime} (hday : new.day ≤ 65535) (hsecond : new.second ≤ 86399) (d : Device) :
    keepsLaws [] d (applySetTime new d) := by
  obtain ⟨hframe, hnow, hset, _, hlast, haside⟩ := setProcessed_frame new d
  have hactivated := activationTest_keeps (setProcessed new d)
  have hk := recomputeCreditReason_keeps (activationTest (setProcessed new d))
  have hmoved : keepsLaws [.clock, .reasons] d
      (zeroDemand (addRecord (.timeSet (timeMark d) new) (d.setClock { d.clock with now := new, isSet := true }))) :=
    (((setClock_keeps d _).laws (L := [.clock, .reasons])).step (addRecord_laws _ _)).step (zeroDemand_laws _)
  have hprocessed : keepsLaws [.clock, .reasons] d (setProcessed new d) := by
    unfold setProcessed
    exact .ite (fun _ => hmoved.step (dayProcessing_laws _))
      fun _ => hmoved.step ((setClock_keeps _ _).laws (L := [.clock, .reasons]))
  rw [applySetTime_eq]
  refine (((hprocessed.step (activationTest_laws _)).step (recomputeCreditReason_laws _)).mend ?clock).mend
    (reasons_kept_recompute_aside (hactivated.power.trans hframe.power) (hactivated.tamper.trans hframe.tamper)
      (by rw [hactivated.relay, haside]))
  case clock =>
    rintro ⟨_, _, hpresent, hcharged⟩
    unfold ClockSound
    rw [hk.clock, hactivated.clock, hnow, hset]
    refine ⟨hday, hsecond, ?_, ?_⟩
    · rcases hlast with h | ⟨hwas, h⟩ <;> rw [h]
      · simp
      · simpa using hpresent.mp hwas
    · intro day hd
      rcases hlast with h | ⟨_, h⟩ <;> rw [h] at hd
      · obtain rfl := Option.mem_some.mp hd; exact hday
      · exact hcharged day hd

end Sys2Proof.Machine
end

section
/-! PROOFS. The Code Checker: what its operations do to the queue and to the used-code list, and the laws they keep. -/

namespace Sys2Proof.Machine

/-! ### The fields of a code -/

theorem digitsNumber_lt (l : List Digit) : digitsNumber l < 10 ^ l.length := by
  induction l using List.reverseRecOn with
  | nil => simp
  | append_singleton l a ih =>
    rw [digitsNumber_concat, List.length_append, List.length_singleton, Nat.pow_succ]
    have := a.isLt
    omega

theorem digitField_lt (u : List Digit) (skip count : Nat) : digitField u skip count < 10 ^ count :=
  lt_of_lt_of_le (digitsNumber_lt _) (Nat.pow_le_pow_right (by decide) (List.length_take_le _ _))

/-- A code whose check digits were right gave the fields of its unmasked digits (R67). -/
theorem judgeCode_fields {digits : List Digit} {d : Device} {r : Result} {f : CodeFields}
    (h : judgeCode digits d = (r, some f)) :
    r = judgeFields f d ∧ f.issue < 1000000 ∧ f.parameter < 100
      ∧ (d.power.part = .accountLost → f.codeClass = 5 ∨ f.codeClass = 7) := by
  unfold judgeCode at h
  split at h
  · simp at h
  dsimp only at h
  split at h
  · simp at h
  split at h
  · simp at h
  case isFalse hclass =>
    split at h
    · obtain ⟨rfl, rfl⟩ : _ = r ∧ _ = f := by simpa using h
      refine ⟨rfl, digitField_lt _ 1 6, digitField_lt _ 10 2, fun hlost => ?_⟩
      by_contra hne
      exact hclass ⟨hlost, fun h5 => hne (.inl h5), fun h7 => hne (.inr h7)⟩
    · simp at h

/-- What acceptance says of a code of class 0 to 6: its number is not spent unless it is exempt, and its class refuses
nothing (R75). -/
theorem judgeFields_accepted {f : CodeFields} {d : Device} (h : judgeFields f d = .accepted) (h7 : f.codeClass ≠ 7) :
    f.codeClass.val ≤ 6 ∧ (exemptCode f d.codes = false → f.issue ∉ usedIssues d.codes ∧ d.codes.floor ≤ f.issue)
      ∧ classRefusal f d = none := by
  unfold judgeFields at h
  split at h
  · cases h
  case isFalse hclass =>
  split at h
  · cases h
  case isFalse hlisted =>
  split at h
  · cases h
  case isFalse hbelow =>
  split at h
  · cases h
  split at h
  · cases h
  refine ⟨?_, fun hexempt => ⟨?_, ?_⟩, ?_⟩
  · have : f.codeClass.val ≠ 7 := fun hv => h7 (Fin.ext hv)
    omega
  · simpa [hexempt, usedIssues] using hlisted
  · simpa [hexempt] using hbelow
  · cases hrefused : classRefusal f d with
    | none => rfl
    | some r =>
      rw [hrefused, Option.getD_some] at h
      subst h
      unfold classRefusal creditRefusal confirmRefusal at hrefused
      repeat' split at hrefused
      all_goals cases hrefused

/-! ### The queue -/

/-- The codes that wait, the code in check first (R70, R74). -/
def waitingCodes (c : Codes) : List QueuedCode := c.inCheck.toList ++ c.queue

/-- A start of a check moves the oldest waiting code into check and nothing else (R74). -/
theorem startCheck_codes (d : Device) :
    (startCheck d).codes
        = { d.codes with inCheck := (startCheck d).codes.inCheck, queue := (startCheck d).codes.queue }
      ∧ waitingCodes (startCheck d).codes = waitingCodes d.codes
      ∧ ((startCheck d).codes.inCheck = none → (startCheck d).codes.queue = [])
      ∧ (startCheck d).codes.queue.length ≤ d.codes.queue.length := by
  unfold startCheck
  split
  case h_1 c rest hcheck hqueue => simp [waitingCodes, hcheck, hqueue]
  case h_2 hother =>
    refine ⟨rfl, rfl, fun hcheck => ?_, le_rfl⟩
    cases hqueue : d.codes.queue with
    | nil => rfl
    | cons c rest => exact absurd hqueue (hother c rest hcheck)

/-- A code taken into the queue waits last, with the next ticket (R70). -/
theorem enqueueCode_codes (w : CodeSource) (g : List Digit) (d : Device) :
    waitingCodes (enqueueCode w g d).codes
        = waitingCodes d.codes ++ [{ source := w, digits := g, ticket := d.codes.nextTicket }]
      ∧ (enqueueCode w g d).codes.nextTicket = (if d.codes.nextTicket < 255 then d.codes.nextTicket + 1 else 0)
      ∧ (enqueueCode w g d).codes.used = d.codes.used ∧ (enqueueCode w g d).codes.floor = d.codes.floor
      ∧ (enqueueCode w g d).codes.windowMinutes = d.codes.windowMinutes
      ∧ ((enqueueCode w g d).codes.inCheck = none → (enqueueCode w g d).codes.queue = [])
      ∧ (enqueueCode w g d).codes.queue.length ≤ d.codes.queue.length + 1 := by
  unfold enqueueCode
  obtain ⟨hrest, hwaiting, hidle, hlength⟩ := startCheck_codes (d.setCodes
      { d.codes with
        queue := d.codes.queue ++ [{ source := w, digits := g, ticket := d.codes.nextTicket }],
        nextTicket := if d.codes.nextTicket < 255 then d.codes.nextTicket + 1 else 0 })
  rw [hwaiting]
  refine ⟨?_, ?_, ?_, ?_, ?_, hidle, by simpa using hlength⟩
  · simp [waitingCodes]
  all_goals rw [hrest]; rfl

theorem keypadCodes_eq (c : Codes) : keypadCodes c = (waitingCodes c).filter (·.source == .keypad) := rfl

theorem keypadBusy_eq (c : Codes) : keypadBusy c = (waitingCodes c).any (·.source == .keypad) := rfl

/-- A code joins a queue with room; a KEYPAD code while none stands (R70, R71). -/
theorem enqueueCode_laws {w : CodeSource} {g : List Digit} {d : Device} (hroom : d.codes.queue.length < 4)
    (hbusy : w = .keypad → keypadBusy d.codes = false) : keepsLaws [] d (enqueueCode w g d) := by
  obtain ⟨hwaiting, hticket, hused, hfloor, hwindow, hidle, hlength⟩ := enqueueCode_codes w g d
  have hk := enqueueCode_keeps w g d
  refine (((hk.laws (L := [.queue, .used, .spent, .test])).mend ?_).mend ?_).mend ?_ |>.mend ?_
  · rintro ⟨_, hkeypad, _, _⟩
    refine ⟨?_, ?_, hidle, ?_⟩
    · simp only [Config.queuePlaces]; omega
    · rw [keypadCodes_eq, hwaiting, List.filter_append, List.length_append, ← keypadCodes_eq]
      by_cases hw : w = .keypad
      · have hnone : keypadCodes d.codes = [] := by
          have := hbusy hw
          rw [keypadBusy_eq, List.any_eq_false] at this
          rw [keypadCodes_eq, List.filter_eq_nil_iff]
          exact this
        simp [hnone, hw]
      · have : (w == .keypad) = false := by simpa using hw
        simp [this, hkeypad]
    · rw [hticket]; split <;> omega
  · simp only [Law.kept, UsedSound, usedIssues, hused, hfloor, hk.power]; exact id
  · simp only [Law.kept, UsedSound, issueSpent, usedIssues, hused, hfloor, hk.power]
    exact fun h => ⟨h, fun _ => id⟩
  · simp only [Law.kept, TestUpTo, running, hwindow, hk.power, hk.intake]; exact fun _ => id

/-- A submission of the keypad: refused, or taken where it may be (R71). -/
theorem submitKeypad_laws (g : List Digit) (d : Device) : keepsLaws [] d (submitKeypad g d).2 := by
  unfold submitKeypad
  refine .ite (fun hqueued => ?_) fun _ => .refl _ _
  unfold keypadAnswer at hqueued
  split at hqueued
  · cases hqueued
  split at hqueued
  · cases hqueued
  case isFalse hfree hroom => exact enqueueCode_laws (Nat.not_le.mp hroom) fun _ => by simpa using hfree

theorem submitPort_laws {w : CodeSource} (hw : w ≠ .keypad) (p : List Byte) (d : Device) :
    keepsLaws [] d (submitPort w p d).1 := by
  unfold submitPort
  split
  · exact .refl _ _
  · split
    · exact .refl _ _
    case isFalse hroom => exact enqueueCode_laws (Nat.not_le.mp hroom) fun h => absurd h hw

/-! ### The used-code list -/

theorem insertUsed_perm (e : UsedCode) (l : List UsedCode) : (insertUsed e l).Perm (e :: l) := by
  induction l with
  | nil => exact .refl _
  | cons x rest ih =>
    unfold insertUsed
    split
    · exact .refl _
    · exact (ih.cons x).trans (.swap e x rest)

theorem mem_insertUsed {e x : UsedCode} {l : List UsedCode} : x ∈ insertUsed e l ↔ x = e ∨ x ∈ l := by
  rw [(insertUsed_perm e l).mem_iff, List.mem_cons]

theorem insertUsed_issues_perm (e : UsedCode) (l : List UsedCode) :
    ((insertUsed e l).map (·.issue)).Perm (e.issue :: l.map (·.issue)) :=
  (insertUsed_perm e l).map (·.issue)

/-- A number that is not listed goes to its place in an ascending list. -/
theorem insertUsed_ascending {e : UsedCode} {l : List UsedCode} (hl : (l.map (·.issue)).Pairwise (· < ·))
    (he : e.issue ∉ l.map (·.issue)) : ((insertUsed e l).map (·.issue)).Pairwise (· < ·) := by
  induction l with
  | nil => simp [insertUsed]
  | cons x rest ih =>
    rw [List.map_cons, List.pairwise_cons] at hl
    rw [List.map_cons, List.mem_cons, not_or] at he
    unfold insertUsed
    split
    case isTrue hlt =>
      rw [List.map_cons, List.map_cons, List.pairwise_cons]
      refine ⟨fun n hn => ?_, List.pairwise_cons.mpr hl⟩
      rcases List.mem_cons.mp hn with rfl | hn
      · exact hlt
      · exact hlt.trans (hl.1 n hn)
    case isFalse hge =>
      rw [List.map_cons, List.pairwise_cons]
      refine ⟨fun n hn => ?_, ih hl.2 he.2⟩
      rcases List.mem_cons.mp ((insertUsed_issues_perm e rest).mem_iff.mp hn) with rfl | hn
      · omega
      · exact hl.1 n hn

/-- The entry that an accepted code makes (R83). -/
def usedEntry (f : CodeFields) (d : Device) : UsedCode :=
  { issue := f.issue, codeClass := f.codeClass, day := if d.clock.isSet then some d.clock.now.day else none }

/-- A listing changes the list and the floor alone, and keeps the list or drops its lowest number (R83). -/
theorem listCode_cases (f : CodeFields) (d : Device) :
    (listCode f d = d.setCodes { d.codes with used := insertUsed (usedEntry f d) d.codes.used }
        ∧ (insertUsed (usedEntry f d) d.codes.used).length ≤ Config.usedPlaces)
      ∨ ∃ lowest rest, insertUsed (usedEntry f d) d.codes.used = lowest :: rest
        ∧ listCode f d = d.setCodes { d.codes with used := rest, floor := lowest.issue + 1 } := by
  have hlength := (insertUsed_perm (usedEntry f d) d.codes.used).length_eq
  have hdef : listCode f d = match insertUsed (usedEntry f d) d.codes.used with
      | lowest :: rest =>
        if Config.usedPlaces < (insertUsed (usedEntry f d) d.codes.used).length then
          d.setCodes { d.codes with used := rest, floor := lowest.issue + 1 }
        else d.setCodes { d.codes with used := insertUsed (usedEntry f d) d.codes.used }
      | [] => d := rfl
  rw [hdef]
  cases hlisted : insertUsed (usedEntry f d) d.codes.used with
  | nil => simp [hlisted] at hlength
  | cons lowest rest =>
    dsimp only
    by_cases hfull : Config.usedPlaces < (lowest :: rest).length
    · exact .inr ⟨lowest, rest, rfl, if_pos hfull⟩
    · exact .inl ⟨if_neg hfull, Nat.not_lt.mp hfull⟩

theorem listCode_codes (f : CodeFields) (d : Device) :
    (listCode f d).codes = { d.codes with used := (listCode f d).codes.used, floor := (listCode f d).codes.floor } := by
  rcases listCode_cases f d with ⟨h, _⟩ | ⟨lowest, rest, _, h⟩ <;> rw [h] <;> rfl

/-- The number listed is spent, and every number spent before it is (R83). -/
theorem listCode_spent {f : CodeFields} {d : Device} (hasc : (usedIssues d.codes).Pairwise (· < ·))
    (hnew : f.issue ∉ usedIssues d.codes) (hfloors : ∀ n ∈ usedIssues d.codes, d.codes.floor ≤ n)
    (hfloor : d.codes.floor ≤ f.issue) :
    issueSpent f.issue (listCode f d) ∧ ∀ n, issueSpent n d → issueSpent n (listCode f d) := by
  have hlistedAsc := insertUsed_ascending (e := usedEntry f d) hasc hnew
  have hmem : ∀ n, n ∈ (insertUsed (usedEntry f d) d.codes.used).map (·.issue)
      ↔ n = f.issue ∨ n ∈ usedIssues d.codes :=
    fun n => by rw [(insertUsed_issues_perm _ _).mem_iff, List.mem_cons]; rfl
  rcases listCode_cases f d with ⟨h, _⟩ | ⟨lowest, rest, heq, h⟩
  · rw [h]
    simp only [issueSpent, usedIssues, Device.setCodes_codes]
    refine ⟨.inr ((hmem _).mpr (.inl rfl)), fun n hn => ?_⟩
    exact hn.imp_right fun hn => (hmem n).mpr (.inr hn)
  · rw [heq] at hmem hlistedAsc
    rw [h]
    simp only [issueSpent, usedIssues, Device.setCodes_codes]
    have hkept : ∀ n, n = f.issue ∨ n ∈ usedIssues d.codes → n < lowest.issue + 1 ∨ n ∈ rest.map (·.issue) := by
      intro n hn
      rcases List.mem_cons.mp ((hmem n).mpr hn) with rfl | hn
      · exact .inl (Nat.lt_succ_self _)
      · exact .inr hn
    refine ⟨hkept _ (.inl rfl), fun n hn => ?_⟩
    rcases hn with hn | hn
    · have hlow := (hmem lowest.issue).mp (List.mem_cons_self ..)
      refine .inl (Nat.lt_succ_of_lt (hn.trans_le ?_))
      rcases hlow with h | h
      · rw [h]; exact hfloor
      · exact hfloors _ h
    · exact hkept n (.inr hn)

/-- A listing keeps the list sound (R83). -/
theorem listCode_usedSound {f : CodeFields} {d : Device} (h : UsedSound d) (hnew : f.issue ∉ usedIssues d.codes)
    (hfloor : d.codes.floor ≤ f.issue) (htop : f.issue < 1000000) (hpart : d.power.part ≠ .accountLost) :
    UsedSound (listCode f d) := by
  obtain ⟨hlen, hasc, hrange, htopped, _⟩ := h
  have hasc' := insertUsed_ascending (e := usedEntry f d) hasc hnew
  have hlen' := (insertUsed_perm (usedEntry f d) d.codes.used).length_eq
  have hrange' : ∀ n ∈ (insertUsed (usedEntry f d) d.codes.used).map (·.issue), d.codes.floor ≤ n ∧ n < 1000000 := by
    intro n hn
    rcases List.mem_cons.mp ((insertUsed_issues_perm _ _).mem_iff.mp hn) with rfl | hn
    · exact ⟨hfloor, htop⟩
    · exact hrange n hn
  rcases listCode_cases f d with ⟨heq, hfits⟩ | ⟨lowest, rest, hlisted, heq⟩
  · rw [heq]
    exact ⟨hfits, hasc', hrange', htopped, fun hlost => absurd hlost hpart⟩
  · rw [heq]
    rw [hlisted] at hasc' hrange' hlen'
    rw [List.map_cons, List.pairwise_cons] at hasc'
    obtain ⟨hlowest, hrest⟩ := hasc'
    have hlow := (hrange' lowest.issue (List.mem_cons_self ..)).2
    refine ⟨?_, hrest, fun n hn => ⟨hlowest n hn, (hrange' n (List.mem_cons_of_mem _ hn)).2⟩, ?_,
      fun hlost => absurd hlost hpart⟩
    · simp only [List.length_cons, Config.usedPlaces, Device.setCodes_codes] at hlen' hlen ⊢; omega
    · simp only [Config.floorTop, Device.setCodes_codes]; omega

theorem listCode_laws {f : CodeFields} {d : Device} (hnew : f.issue ∉ usedIssues d.codes)
    (hfloor : d.codes.floor ≤ f.issue) (htop : f.issue < 1000000)
    (hpart : UsedSound d → d.power.part ≠ .accountLost) : keepsLaws [] d (listCode f d) := by
  have hk := listCode_keeps f d
  have hcodes := listCode_codes f d
  refine (((hk.laws (L := [.queue, .used, .spent, .test])).mend ?_).mend
    fun h => listCode_usedSound h hnew hfloor htop (hpart h)).mend
    (fun h => ⟨listCode_usedSound h hnew hfloor htop (hpart h), ?_⟩) |>.mend ?_
  · simp only [Law.kept, QueueSound, keypadCodes]; rw [hcodes]; exact id
  · obtain ⟨_, hasc, hrange, _, _⟩ := h
    exact (listCode_spent hasc hnew (fun n hn => (hrange n hn).1) hfloor).2
  · simp only [Law.kept, TestUpTo, running, hk.power, hk.intake]; rw [hcodes]; exact fun _ => id

/-! ### Acceptance -/

/-- The effect of a class that refuses nothing (R81, R82). Only a CLEAR_TAMPER unlatches. -/
theorem classEffect_laws {f : CodeFields} {d : Device} (hclass : classRefusal f d = none) (hparam : f.parameter < 100) :
    keepsLaws [.latches] d (classEffect f d) := by
  unfold classRefusal at hclass
  unfold classEffect
  split
  case h_1 h => simp only [h] at hclass; exact (topUp_laws hclass).mono
  case h_2 => exact (debtSet_laws (Nat.le_of_lt hparam) d).mono
  case h_3 => exact clearTamper_laws _ _
  case h_4 h =>
    simp only [h] at hclass
    split at hclass
    · cases hclass
    case isFalse hw => exact (writeLimit_laws (Nat.not_lt.mp hw) d).mono
  case h_5 => exact (confirmTariff_laws d).mono
  case h_6 => exact (serviceOpen_laws _ d).mono
  case h_7 => exact (clearAccount_laws d).mono
  case h_8 => exact .refl _ _

theorem latches_kept_classEffect {f : CodeFields} {d : Device} (h2 : f.codeClass.val ≠ 2) :
    Law.latches.kept d (classEffect f d) := by
  have hframe : keepsBut [.account, .residue, .relay, .load, .tariffs, .codes, .intake, .log, .host] d (classEffect f d) := by
    unfold classEffect
    split
    · exact keepsBut_mono (topUp_keeps _ _) (by decide)
    · exact keepsBut_mono (debtSet_keeps _ _ _) (by decide)
    · contradiction
    · exact keepsBut_mono (writeLimit_keeps _ _) (by decide)
    · exact keepsBut_mono (confirmTariff_keeps _) (by decide)
    · exact keepsBut_mono (serviceOpen_keeps _ _) (by decide)
    · exact keepsBut_mono (clearAccount_keeps _) (by decide)
    · exact keepsBut_refl _ _
  exact fun x => by rw [hframe.sourceEntry x]; exact id

/-- No class moves the queue, the list or the validity; a SERVICE_OPEN moves the window (R89). -/
theorem classEffect_codes (f : CodeFields) (d : Device) :
    (classEffect f d).codes = { d.codes with windowMinutes := (classEffect f d).codes.windowMinutes } := by
  have hkept : ∀ e : Device, e.codes = d.codes → e.codes = { d.codes with windowMinutes := e.codes.windowMinutes } :=
    fun e h => by rw [h]
  have hserviceOpen : ∀ n, (serviceOpen n d).codes
      = { d.codes with windowMinutes := (serviceOpen n d).codes.windowMinutes } := by
    intro n
    unfold serviceOpen
    split
    · rfl
    split
    · unfold closeWindow; rw [(endTest_keeps _ _).codes]; rfl
    · rfl
  unfold classEffect
  split
  · exact hkept _ (topUp_keeps _ _).codes
  · exact hkept _ (debtSet_keeps _ _ _).codes
  · exact hkept _ (clearTamper_keeps _ _).codes
  · exact hkept _ (writeLimit_keeps _ _).codes
  · exact hkept _ (confirmTariff_keeps _).codes
  · exact hserviceOpen _
  · exact hkept _ (clearAccount_keeps _).codes
  · rfl

theorem classEffect_power (f : CodeFields) (d : Device) : (classEffect f d).power = d.power := by
  unfold classEffect
  split
  · exact (topUp_keeps _ _).power
  · exact (debtSet_keeps _ _ _).power
  · exact (clearTamper_keeps _ _).power
  · exact (writeLimit_keeps _ _).power
  · exact (confirmTariff_keeps _).power
  · exact (serviceOpen_keeps _ _).power
  · exact (clearAccount_keeps _).power
  · rfl

/-- The codes of the accepting part: the class's window, and the list where the code is not exempt (R78, R82, R83). -/
theorem acceptCode_codes (f : CodeFields) (d : Device) :
    (acceptCode f d).codes
      = { d.codes with
          windowMinutes := (classEffect f d).codes.windowMinutes, used := (acceptCode f d).codes.used,
          floor := (acceptCode f d).codes.floor } := by
  have hlisted := listCode_codes f (classEffect f d)
  unfold acceptCode
  dsimp only
  rw [(addRecord_keeps _ _).codes]
  split
  · rw [classEffect_codes]
  · rw [hlisted, classEffect_codes]

theorem acceptCode_laws {f : CodeFields} {d : Device} (haccepted : judgeFields f d = .accepted) (h7 : f.codeClass ≠ 7)
    (hissue : f.issue < 1000000) (hparam : f.parameter < 100) (hlost : d.power.part = .accountLost → f.codeClass = 5) :
    keepsLaws [.latches] d (acceptCode f d) := by
  obtain ⟨_, hspent, hclass⟩ := judgeFields_accepted haccepted h7
  have heffect := classEffect_laws hclass hparam
  have hcodes := classEffect_codes f d
  unfold acceptCode
  dsimp only
  split
  · exact heffect.step (addRecord_laws _ _)
  case isFalse hexempt =>
    have hnotExempt : exemptCode f d.codes = false := by simpa using hexempt
    obtain ⟨hnew, hfloor⟩ := hspent hnotExempt
    have hlisting : keepsLaws [] (classEffect f d) (listCode f (classEffect f d)) := by
      refine listCode_laws ?_ ?_ hissue fun hsound hpart => ?_
      · rw [hcodes]; exact hnew
      · rw [hcodes]; exact hfloor
      · obtain ⟨_, _, _, _, hempty⟩ := hsound
        obtain ⟨hused, htop⟩ := hempty hpart
        rw [hcodes] at hused htop
        have h5 := hlost (classEffect_power f d ▸ hpart)
        simp only at hused htop
        simp [exemptCode, h5, hused, htop] at hnotExempt
    exact (heffect.step hlisting).step (addRecord_laws _ _)

end Sys2Proof.Machine
end

section
/-! PROOFS. The laws that the reporting of outcomes, the check completion and the aborting of codes keep. -/

namespace Sys2Proof.Machine

/-! ### Reporting (section 4.7) -/

/-- Keypad Entry takes new contents in its ranges. -/
theorem setKeypad_laws {d : Device} {x : Keypad} (h : KeypadSound d → KeypadSound (d.setKeypad x)) :
    keepsLaws [] d (d.setKeypad x) :=
  ((setKeypad_keeps d x).laws (L := [.keypad])).mend h

theorem keypadOutcome_laws (r : Result) (d : Device) : keepsLaws [] d (keypadOutcome r d) := by
  have hshown : ∀ n, n < Config.lockoutRefusals → ∀ m, m ≤ Config.lockoutMinutes ∨ m = d.keypad.lockout →
      keepsLaws [] d (d.setKeypad { d.keypad with outcome := some (r, .code), refusals := n, lockout := m }) := by
    intro n hn m hm
    refine setKeypad_laws ?_
    rintro ⟨h1, h2, h3, h4, _, h6, h7⟩
    exact ⟨h1, h2, h3, h4, hn, hm.elim id fun h => h ▸ h6, h7⟩
  unfold keypadOutcome
  dsimp only
  split
  · refine .ite (fun _ => ?_) fun hfew => ?_
    · exact keepsLaws.step (M := []) (hshown 0 (by decide) _ (.inl le_rfl)) (addRecord_laws _ _)
    exact hshown _ (Nat.not_le.mp hfew) _ (.inr rfl)
  · exact hshown 0 (by decide) _ (.inr rfl)
  · exact setKeypad_laws id

/-- A report to the meter host moves its port; the notice stands beside those that pend (R87). -/
theorem reportOutcome_laws (c : QueuedCode) (r : Result) (f : Option (Digit × Nat)) (d : Device) :
    keepsLaws [.host] d (reportOutcome c r f d) := by
  unfold reportOutcome
  dsimp only
  split
  · exact (keypadOutcome_laws r d).mono
  · refine keepsLaws.step (M := []) (keepsLaws.mend ((setHost_keeps d _).laws (L := [.notices, .host])) ?_)
      (raiseNotice_laws _ _)
    exact fun _ => id
  · exact ((setService_keeps d _).laws (L := [.store, .host])).mend fun h => ⟨h, fun _ => id⟩

theorem reportOutcome_codes (c : QueuedCode) (r : Result) (f : Option (Digit × Nat)) (d : Device) :
    (reportOutcome c r f d).codes = d.codes := (reportOutcome_keeps c r f d).codes

/-! ### Aborting (R85) -/

theorem abortCodes_codes (d : Device) : (abortCodes d).codes = { d.codes with inCheck := none, queue := [] } := by
  have hkept : ∀ (l : List QueuedCode) (e : Device),
      (l.foldl (fun now c => reportOutcome c .aborted none now) e).codes = e.codes := by
    intro l
    induction l with
    | nil => exact fun _ => rfl
    | cons c l ih => exact fun e => (ih _).trans (reportOutcome_codes _ _ _ e)
  exact hkept _ _

/-- A change of the queue and the check alone. -/
theorem setCodes_queue_laws {d : Device} {q : List QueuedCode} {c : Option QueuedCode} :
    keepsLaws [.queue] d (d.setCodes { d.codes with inCheck := c, queue := q }) :=
  (((setCodes_keeps d { d.codes with inCheck := c, queue := q }).laws (L := [.used, .spent, .test, .queue])).mend id).mend
    (fun h => ⟨h, fun _ => id⟩) |>.mend fun _ => id

theorem abortCodes_laws (d : Device) : keepsLaws [.host] d (abortCodes d) := by
  have hemptied : keepsLaws [.queue, .host] d (d.setCodes { d.codes with inCheck := none, queue := [] }) :=
    setCodes_queue_laws.mono
  have hreported : keepsLaws [.queue, .host] d (abortCodes d) :=
    hemptied.foldl (fun e c => (reportOutcome_laws _ _ _ e).mono) _
  refine hreported.mend ?_
  rintro ⟨_, _, _, hticket⟩
  unfold QueueSound
  rw [abortCodes_codes]
  exact ⟨by simp, by simp [keypadCodes], by simp, hticket⟩

/-! ### The check completion (R74, R75) -/

/-- The part after the judgement of the code in check and the effect of an accepted one, before the report. -/
def judgedDevice (c : QueuedCode) (d : Device) : Device :=
  let idle := d.setCodes { d.codes with inCheck := none }
  match judgeCode c.digits d with
  | (.accepted, some f) => if f.codeClass = 7 then idle else acceptCode f idle
  | _ => idle

theorem completeCheck_eq (c : QueuedCode) (d : Device) :
    completeCheck c d
      = startCheck (reportOutcome c (judgeCode c.digits d).1
          ((judgeCode c.digits d).2.map fun f => (f.codeClass, f.issue)) (judgedDevice c d)) := rfl

/-- A code that is refused, and a TEST code, leaves the part as it is but for the check, which is idle. -/
theorem judgedDevice_cases (c : QueuedCode) (d : Device) :
    judgedDevice c d = d.setCodes { d.codes with inCheck := none }
      ∨ ∃ f, judgeCode c.digits d = (.accepted, some f) ∧ f.codeClass ≠ 7
        ∧ judgedDevice c d = acceptCode f (d.setCodes { d.codes with inCheck := none }) := by
  unfold judgedDevice
  dsimp only
  split
  case h_1 f h =>
    by_cases h7 : f.codeClass = 7
    · exact .inl (if_pos h7)
    · exact .inr ⟨f, h, h7, if_neg h7⟩
  case h_2 => exact .inl rfl

/-- A check moves the list, the floor and the window of the Code Checker, and ends idle (R74, R82, R83, R89). -/
theorem judgedDevice_codes (c : QueuedCode) (d : Device) :
    (judgedDevice c d).codes
      = { d.codes with
          inCheck := none, windowMinutes := (judgedDevice c d).codes.windowMinutes,
          used := (judgedDevice c d).codes.used, floor := (judgedDevice c d).codes.floor } := by
  rcases judgedDevice_cases c d with h | ⟨f, _, _, h⟩ <;> rw [h]
  · rfl
  · rw [acceptCode_codes]; rfl

theorem judgedDevice_laws (c : QueuedCode) (d : Device) :
    keepsLaws [.queue, .latches] d (judgedDevice c d) := by
  rcases judgedDevice_cases c d with h | ⟨f, hjudged, h7, h⟩ <;> rw [h]
  · exact setCodes_queue_laws.mono
  · obtain ⟨haccepted, hissue, hparam, hlost⟩ := judgeCode_fields hjudged
    refine (setCodes_queue_laws (d := d) (q := d.codes.queue) (c := none)).mono.step
      (acceptCode_laws haccepted.symm h7 hissue hparam fun hpart => ?_)
    exact (hlost hpart).resolve_right h7

theorem completeCheck_laws (c : QueuedCode) (d : Device) : keepsLaws [.host, .latches] d (completeCheck c d) := by
  rw [completeCheck_eq]
  generalize hreported : reportOutcome c _ _ (judgedDevice c d) = reported
  have hcodes : reported.codes = (judgedDevice c d).codes := by rw [← hreported, reportOutcome_codes]
  have hlaws : keepsLaws [.queue, .host, .latches] d reported := by
    rw [← hreported]
    exact ((judgedDevice_laws c d).mono).step (reportOutcome_laws _ _ _ _)
  obtain ⟨hrest, hwaiting, hidle, hlength⟩ := startCheck_codes reported
  have hk := startCheck_keeps reported
  have hstarted : keepsLaws [.queue] reported (startCheck reported) := by
    refine (((hk.laws (L := [.used, .spent, .test, .queue])).mend ?_).mend ?_).mend ?_
    · simp only [Law.kept, UsedSound, usedIssues, hk.power]; rw [hrest]; exact id
    · simp only [Law.kept, UsedSound, issueSpent, usedIssues, hk.power]; rw [hrest]
      exact fun h => ⟨h, fun _ => id⟩
    · simp only [Law.kept, TestUpTo, running, hk.power, hk.intake]; rw [hrest]; exact fun _ => id
  refine (hlaws.step hstarted).mend ?_
  have hjudged := judgedDevice_codes c d
  rintro ⟨hlen, hkeypad, _, hticket⟩
  refine ⟨?_, ?_, hidle, ?_⟩
  · rw [hcodes, hjudged] at hlength
    exact hlength.trans hlen
  · rw [keypadCodes_eq, hwaiting, hcodes, hjudged]
    rw [keypadCodes_eq] at hkeypad
    refine le_trans (List.Sublist.length_le (List.Sublist.filter _ ?_)) hkeypad
    simp [waitingCodes]
  · rw [hrest, hcodes, hjudged]
    exact hticket

end Sys2Proof.Machine
end

section
/-! PROOFS. The laws that the keys, the frames of the customer link, the pulses, the sense lines and the relay's own events
keep. -/

namespace Sys2Proof.Machine

/-! ### What an event may do -/

/-- CLOSE_DRIVE is raised on mains over an empty set alone, from RECONNECT_READY, STUCK or a retry wait (R120). -/
def DriveSafe (d e : Device) : Prop :=
  RelaySound d → closeDrive d = false → closeDrive e = true →
    e.relay.reasons.isEmpty = true ∧ running e = true
      ∧ (d.relay.state = .reconnectReady ∨ relayName d.relay.state = .stuck
        ∨ ∃ a, d.relay.state = .closing a ∧ a.waiting = true)

/-- The part goes from UNCOMMISSIONED or ACCOUNT_LOST into service (R43, R185). -/
def Entered (d e : Device) : Prop :=
  (d.power.part = .uncommissioned ∨ d.power.part = .accountLost) ∧ e.power.part = .inService

/-- What a command does to the laws: most keep them all, a reconnection raises CLOSE_DRIVE, and RESTORE_ACCOUNT sets the
issue floor anew. What the meter host port holds is its own. -/
inductive Change (d e : Device) : Prop
  | ordinary (laws : keepsLaws [.host, .notices] d e)
  | driving (laws : keepsLaws [.host, .notices, .drive] d e) (safe : DriveSafe d e)
  | entering (laws : keepsLaws [.host, .notices, .spent] d e) (entered : Entered d e)

theorem Change.of_laws {d e : Device} (h : keepsLaws [] d e) : Change d e := .ordinary h.mono

theorem Change.refl (d : Device) : Change d d := .ordinary (.refl _ d)

/-- An operation that keeps the laws, the relay and the power. -/
structure Steady (d e : Device) : Prop where
  laws : keepsLaws [.host, .notices] d e
  relay : e.relay = d.relay
  power : e.power = d.power

theorem Steady.of_frame {d e : Device} {l : List Block} (laws : keepsLaws [.host, .notices] d e) (h : keepsBut l d e)
    (hrelay : .relay ∉ l := by decide) (hpower : .power ∉ l := by decide) : Steady d e :=
  ⟨laws, h.relay hrelay, h.power hpower⟩

theorem Change.after {d e f : Device} (h : Steady d e) (k : Change e f) : Change d f := by
  cases k with
  | ordinary laws => exact .ordinary (h.laws.step laws)
  | driving laws safe =>
    refine .driving ((h.laws.mono (L := [.host, .notices, .drive])).step laws) ?_
    unfold DriveSafe RelaySound closeDrive running at safe ⊢
    rw [h.relay, h.power] at safe
    exact safe
  | entering laws entered =>
    refine .entering ((h.laws.mono (L := [.host, .notices, .spent])).step laws) ?_
    unfold Entered at entered ⊢
    rw [h.power] at entered
    exact entered

theorem Change.followed {d e f : Device} (h : Change d e) (k : Steady e f) : Change d f := by
  cases h with
  | ordinary laws => exact .ordinary (laws.step k.laws)
  | driving laws safe =>
    refine .driving (laws.step k.laws) ?_
    unfold DriveSafe closeDrive running at safe ⊢
    rw [k.relay, k.power]
    exact safe
  | entering laws entered => exact .entering (laws.step k.laws) ⟨entered.1, k.power ▸ entered.2⟩

/-- A drive toward closed from RECONNECT_READY, on mains: the set is empty there (R118, R120). -/
theorem reconnectPress_change {d : Device} (hrun : running d = true) : Change d (reconnectPress d) := by
  refine .driving ((reconnectPress_laws hrun).mono) ?_
  rintro ⟨_, hallowed, _⟩ hlow hraised
  unfold reconnectPress at hraised ⊢
  split at hraised
  case isTrue hready =>
    rw [if_pos hready]
    have hempty := hallowed hrun
    rw [hready] at hempty
    exact ⟨hempty, hrun, .inl hready⟩
  case isFalse => exact absurd (hlow.symm.trans hraised) (by decide)

/-! ### The customer link -/

theorem setLink_keeps (d : Device) (x : Link) : keepsBut [.link] d (d.setLink x) := by
  intro b hb
  cases b
  case link => exact absurd (List.mem_singleton_self _) hb
  all_goals rfl

/-- The customer link takes new contents in its ranges. -/
theorem setLink_laws {d : Device} {x : Link} (h : ∀ bound ≤ 60, LinkFrom bound d → LinkFrom bound (d.setLink x)) :
    keepsLaws [] d (d.setLink x) :=
  ((setLink_keeps d x).laws (L := [.link])).mend h

/-- What is held of a frame stays within its length (R95). -/
theorem receive_inRange (c : Byte) {a : Assembly} (h : assemblyInRange a = true) :
    assemblyInRange (receive c a).1 = true := by
  unfold receive
  split
  · split <;> rfl
  · rfl
  · split
    case isTrue hfits => simp only [assemblyInRange, hfits, decide_true, Bool.true_and]; simp
    case isFalse => rfl
  case h_4 kind length payload =>
    simp only [assemblyInRange, Bool.and_eq_true, decide_eq_true_eq] at h
    split
    case isTrue hmore =>
      simp only [assemblyInRange, Bool.and_eq_true, decide_eq_true_eq, List.length_append, List.length_singleton]
      exact ⟨h.1, hmore⟩
    case isFalse => split <;> rfl

theorem raiseErrors_le {n : Nat} (h : n ≤ 255) : raiseErrors n ≤ 255 := raiseCount_le n h

/-- An assembly in its range, on a running link. -/
theorem setAssembly_laws {d : Device} (hrun : running d = true) {a : Assembly}
    (ha : assemblyInRange d.link.assembly = true → assemblyInRange a = true) :
    keepsLaws [] d (d.setLink { d.link with assembly := a }) := by
  refine setLink_laws ?_
  rintro bound _ ⟨h1, h2, h3, h4, h5, _⟩
  exact ⟨h1, h2, h3, h4, ha h5, fun hoff => absurd (hrun.symm.trans hoff) (by decide)⟩

theorem badLinkFrame_laws (d : Device) : keepsLaws [] d (badLinkFrame d) := by
  refine setLink_laws ?_
  rintro bound _ ⟨h1, h2, h3, h4, _, h6⟩
  exact ⟨h1, h2, raiseErrors_le h3, h4, rfl, fun hoff => ⟨(h6 hoff).1, rfl⟩⟩

theorem frameSeen_laws (d : Device) : keepsLaws [] d (frameSeen d) := by
  refine setLink_laws ?_
  rintro bound hbound ⟨h1, h2, h3, _, _, h6⟩
  exact ⟨h1, h2, h3, ⟨hbound, le_rfl⟩, rfl, fun hoff => ⟨(h6 hoff).1, rfl⟩⟩

theorem damagedCharacter_laws (e : CharError) (d : Device) :
    keepsLaws [] d
      (match e with
        | .parity => d.setLink { d.link with assembly := .hunting, parityErrors := raiseErrors d.link.parityErrors }
        | .framing => d.setLink { d.link with assembly := .hunting, framingErrors := raiseErrors d.link.framingErrors }) := by
  cases e
  · refine setLink_laws ?_
    rintro bound _ ⟨h1, h2, h3, h4, _, h6⟩
    exact ⟨raiseErrors_le h1, h2, h3, h4, rfl, fun hoff => ⟨(h6 hoff).1, rfl⟩⟩
  · refine setLink_laws ?_
    rintro bound _ ⟨h1, h2, h3, h4, _, h6⟩
    exact ⟨h1, raiseErrors_le h2, h3, h4, rfl, fun hoff => ⟨(h6 hoff).1, rfl⟩⟩

theorem beginStatus_laws {d : Device} (hrun : running d = true) : keepsLaws [] d (beginStatus d) := by
  refine setLink_laws ?_
  rintro bound _ ⟨h1, h2, h3, h4, h5, _⟩
  exact ⟨h1, h2, h3, h4, h5, fun hoff => absurd (hrun.symm.trans hoff) (by decide)⟩

theorem endStatus_laws (d : Device) : keepsLaws [] d (d.setLink { d.link with sending := none }) := by
  refine setLink_laws ?_
  rintro bound _ ⟨h1, h2, h3, h4, h5, h6⟩
  exact ⟨h1, h2, h3, h4, h5, fun hoff => ⟨rfl, (h6 hoff).2⟩⟩

/-! ### The keys and the frames (R97, R102) -/

theorem digitAction_laws (g : Digit) (d : Device) : keepsLaws [] d (digitAction g d) := by
  unfold digitAction
  refine .ite (fun hroom => setKeypad_laws ?_) fun _ => setKeypad_laws ?_
  · rintro ⟨_, _, h3, h4, h5, h6, _⟩
    refine ⟨?_, Nat.zero_le _, h3, h4, h5, h6, fun h => absurd h (by simp)⟩
    simpa using Nat.succ_le_of_lt hroom
  · rintro ⟨h1, _, h3, h4, h5, h6, _⟩
    exact ⟨h1, Nat.zero_le _, h3, h4, h5, h6, fun h => absurd h (by simp)⟩

theorem backAction_laws (d : Device) : keepsLaws [] d (backAction d) := by
  refine setKeypad_laws ?_
  rintro ⟨h1, _, h3, h4, h5, h6, _⟩
  exact ⟨le_trans (by simp) h1, Nat.zero_le _, h3, h4, h5, h6, fun h => absurd h (by simp)⟩

theorem enterEmergency_laws (d : Device) : keepsLaws [] d (enterEmergency d) := by
  have htaken : keepsLaws [] d (if emergencyOutcome d = .accepted then emergencyTake d else d) :=
    keepsLaws.ite emergencyTake_laws fun _ => .refl _ _
  refine htaken.step (M := []) (setKeypad_laws ?_)
  rintro ⟨h1, _, h3, h4, h5, h6, _⟩
  exact ⟨h1, Nat.zero_le _, h3, h4, h5, h6, fun h => absurd h (by simp)⟩

/-- An entry emptied, with whatever outcome is shown. -/
theorem clearBuffer_laws (d : Device) (o : Option (Result × KeyRequest)) :
    keepsLaws [] d (d.setKeypad { d.keypad with buffer := [], outcome := o }) := by
  refine setKeypad_laws ?_
  rintro ⟨_, h2, h3, h4, h5, h6, _⟩
  exact ⟨Nat.zero_le _, h2, h3, h4, h5, h6, fun _ => rfl⟩

theorem submitKeypad_keeps (g : List Digit) (d : Device) : keepsBut [.codes] d (submitKeypad g d).2 := by
  unfold submitKeypad
  dsimp only
  split
  · exact enqueueCode_keeps .keypad g d
  · exact keepsBut_refl _ _

theorem enterCode_laws (d : Device) : keepsLaws [] d (enterCode d) := by
  have hkeypad := (submitKeypad_keeps d.keypad.buffer d).keypad
  have hcleared := clearBuffer_laws (submitKeypad d.keypad.buffer d).2
  rw [hkeypad] at hcleared
  unfold enterCode
  dsimp only
  refine keepsLaws.step (M := []) (submitKeypad_laws d.keypad.buffer d) ?_
  split
  · exact hcleared _
  · exact hcleared _

theorem enterAction_laws (d : Device) : keepsLaws [] d (enterAction d) := by
  unfold enterAction
  exact .ite (fun _ => enterEmergency_laws d) fun _ =>
    .ite (fun _ => .ite (fun _ => clearBuffer_laws _ _) fun _ => enterCode_laws d)
      fun _ => .ite (fun _ => .refl _ _) fun _ => clearBuffer_laws _ _

theorem emergencyAction_laws (d : Device) : keepsLaws [] d (emergencyAction d) := by
  unfold emergencyAction
  refine .ite (fun hempty => setKeypad_laws ?_) fun _ => .refl _ _
  rintro ⟨h1, _, h3, h4, h5, h6, _⟩
  exact ⟨h1, le_rfl, h3, h4, h5, h6, fun _ => hempty⟩

theorem infoAction_laws (d : Device) : keepsLaws [] d (infoAction d) := by
  refine setKeypad_laws ?_
  rintro ⟨h1, h2, _, h4, h5, h6, h7⟩
  refine ⟨h1, h2, ?_, h4, h5, h6, h7⟩
  rw [Device.setKeypad_keypad]
  split
  · exact Nat.succ_le_of_lt ‹_›
  · exact Nat.zero_le _

theorem presenceAction_laws (o : Bool) (v : Byte) (d : Device) : keepsLaws [] d (presenceAction o v d) := by
  have hstored : keepsLaws [] d
      (d.setLink { d.link with ciuVersion := some v, ciuCase := if o then .open else .closed }) :=
    setLink_laws fun _ _ => id
  unfold presenceAction
  exact .ite (fun _ => hstored.step (detect_laws _ _ _)) fun _ => hstored

section
variable {d : Device} {act : Device → Device}

/-- A key begins its 30 s of inactivity, and acts (R102). -/
theorem keyArrival_change (hact : ∀ e, running e = running d → Change e (act e)) : Change d (keyArrival act d) := by
  have hkeyed : keepsLaws [] d (d.setKeypad { d.keypad with inactivity := Config.inactivitySeconds }) := by
    refine setKeypad_laws ?_
    rintro ⟨h1, h2, h3, _, h5, h6, h7⟩
    exact ⟨h1, h2, h3, le_rfl, h5, h6, h7⟩
  exact .after ⟨hkeyed.mono, rfl, rfl⟩ (hact _ rfl)

/-- A frame arrives on the running link (R97). -/
theorem linkArrival_change {kind : Byte} {payload : List Byte} (hact : ∀ e, running e = true → Change e (act e)) :
    Change d (linkArrival kind payload act d) := by
  unfold linkArrival
  split
  case isTrue h =>
    have hrun : running d = true := (Bool.and_eq_true_iff.mp h).1
    exact .after ⟨(frameSeen_laws d).mono, rfl, rfl⟩ (hact (frameSeen d) hrun)
  case isFalse => exact .refl _

end

theorem keyAction_change (k : Byte) {d : Device} (hrun : running d = true) : Change d (keyAction k d) := by
  unfold keyAction
  split
  · exact keyArrival_change fun e _ => .of_laws (digitAction_laws _ e)
  split
  · exact keyArrival_change fun e _ => .of_laws (backAction_laws e)
  split
  · exact keyArrival_change fun e _ => .of_laws (enterAction_laws e)
  split
  · exact keyArrival_change fun e _ => .of_laws (emergencyAction_laws e)
  split
  · exact keyArrival_change fun e he => reconnectPress_change (he.trans hrun)
  split
  · exact keyArrival_change fun e _ => .of_laws (infoAction_laws e)
  · exact .refl _

theorem frameAction_change (kind : Byte) (payload : List Byte) {d : Device} (hrun : running d = true) :
    Change d (frameAction kind payload d) := by
  unfold frameAction
  split
  · split
    · exact keyAction_change _ hrun
    · exact .refl _
  · split
    · exact .of_laws (presenceAction_laws _ _ d)
    split
    · exact .of_laws (presenceAction_laws _ _ d)
    · exact .refl _
  · exact .refl _

theorem linkCharacter_change (c : Byte) (d : Device) : Change d (linkCharacter c d) := by
  unfold linkCharacter
  split
  case isFalse => exact .refl _
  case isTrue hrun =>
  split
  case h_1 a hreceived =>
    refine .of_laws (setAssembly_laws hrun fun h5 => ?_)
    have hrange := receive_inRange c h5
    rwa [hreceived] at hrange
  case h_2 => exact .of_laws (badLinkFrame_laws d)
  case h_3 kind payload _ =>
    exact .after ⟨(frameSeen_laws d).mono, rfl, rfl⟩ (frameAction_change kind payload (d := frameSeen d) hrun)

/-! ### The pulses (chapter 1) -/

theorem setPulseLine_laws (p : Phase) (l : Level) (d : Device) : keepsLaws [] d (setPulseLine p l d) :=
  setIntake_laws rfl rfl TamperSound.openEnergy TamperSound.reverse

theorem setFilter_laws (p : Phase) (f : PulseFilter) (d : Device) : keepsLaws [] d (setFilter p f d) :=
  setIntake_laws rfl rfl TamperSound.openEnergy TamperSound.reverse

theorem countEnergy_laws (b : Nat) (d : Device) : keepsLaws [] d (countEnergy b d) :=
  setIntake_laws rfl rfl TamperSound.openEnergy TamperSound.reverse

theorem chargeQuantum_laws (price : Nat) (d : Device) : keepsLaws [] d (chargeQuantum price d) := by
  have hresidue : keepsLaws [] d (d.setResidue ((d.residue + price) % Config.residueUnits)) := by
    refine ((setResidue_keeps d _).laws (L := [.account])).mend ?_
    rintro ⟨h1, h2, h3, h4, h5, h6, h7, h8, _, hrest⟩
    exact ⟨h1, h2, h3, h4, h5, h6, h7, h8, Nat.mod_lt _ (by decide), hrest⟩
  exact hresidue.step (debit_laws _ _ _)

theorem countOpenEnergy_laws (d : Device) : keepsLaws [] d (countOpenEnergy d) := by
  unfold countOpenEnergy
  refine .ite (fun _ => .refl _ _) fun _ => .ite (fun _ => ?_) fun hbelow => ?_
  · exact (zeroOpenEnergy_laws d).step (detect_laws _ _ _)
  · refine setIntake_laws rfl rfl (fun h => ?_) TamperSound.reverse
    obtain ⟨_, _, _, hthreshold, _⟩ := h
    exact le_trans (Nat.le_of_lt (Nat.not_le.mp hbelow)) hthreshold

theorem reverseRouting_laws (d : Device) : keepsLaws [] d (reverseRouting d) := by
  have hset : ∀ n, (TamperSound d → n ≤ 255) → keepsLaws [] d (d.setIntake { d.intake with reverse := n }) :=
    fun n hn => setIntake_laws rfl rfl TamperSound.openEnergy hn
  unfold reverseRouting
  refine .ite (fun _ => (hset 0 fun _ => Nat.zero_le _).step (detect_laws _ _ _)) fun hbelow => hset _ fun h => ?_
  obtain ⟨_, _, _, _, _, hthreshold, _⟩ := h
  exact le_trans (Nat.le_of_lt (Nat.not_le.mp hbelow)) hthreshold

theorem testRouting_laws (p : Phase) (l : Level) (d : Device) : keepsLaws [] d (testRouting p l d) := by
  cases l <;> exact setIntake_laws rfl rfl TamperSound.openEnergy TamperSound.reverse

theorem chargingRouting_laws (o : Bool) (d : Device) : keepsLaws [] d (chargingRouting o d) := by
  have hmeasure : ∀ e, keepsLaws [] e
      (countDemand (chargeQuantum (priceOf d (bandInForce d)) (countEnergy (bandInForce d) e))) :=
    fun e => ((countEnergy_laws _ e).step (chargeQuantum_laws _ _)).step (countDemand_laws _)
  have hwatch : ∀ e, keepsLaws [] e (if d.relay.state = .closed then e else countOpenEnergy e) :=
    fun e => .ite (fun _ => .refl _ _) fun _ => countOpenEnergy_laws e
  unfold chargingRouting
  exact .ite (fun _ => (hwatch d).step (hmeasure _)) fun _ => (hmeasure d).step (hwatch _)

theorem routeQuantum_laws (p : Phase) (l : Level) (o : Bool) (d : Device) : keepsLaws [] d (routeQuantum p l o d) := by
  unfold routeQuantum
  refine .ite (fun _ => testRouting_laws _ _ _) fun _ => ?_
  cases l
  · exact chargingRouting_laws _ _
  · exact reverseRouting_laws _

/-! ### The sense lines (section 7.1) -/

/-- A change of the Tamper Monitor away from its sources. -/
theorem setTamper_laws {d : Device} {x : Tamper} (hsources : x.sources = d.tamper.sources)
    (hrange : TamperSound d → TamperSound (d.setTamper x)) : keepsLaws [] d (d.setTamper x) := by
  refine ((((setTamper_keeps d x).laws (L := [.tamper, .reasons, .log, .latches])).mend hrange).mend ?_).mend ?_ |>.mend ?_
  · simp only [Law.kept, ReasonsBut, tamperReasonOf, Device.setTamper_tamper, hsources]; exact fun _ => id
  · simp only [Law.kept, LogSound, Device.setTamper_tamper, hsources]; exact id
  · simp only [Law.kept, sourceEntry, Device.setTamper_tamper, hsources]; exact fun _ => id

theorem setLine_laws (l : Line) (x : SenseLine) (d : Device) : keepsLaws [] d (setLine l x d) := setTamper_laws rfl id

theorem changeLine_laws (l : Line) (level : Level) (d : Device) : keepsLaws [] d (changeLine l level d) := by
  unfold changeLine
  exact .ite (fun _ => .refl _ _) fun _ => .ite (fun _ => setLine_laws _ _ _) fun _ => setLine_laws _ _ _

theorem functionDetected_laws (f : LineFunction) (d : Device) : keepsLaws [] d (functionDetected f d) := by
  unfold functionDetected
  split
  · exact .ite (fun _ => setTamper_laws rfl id) fun _ => detect_laws _ _ _
  · exact .refl _ _

/-- A change of a function of mains is handed on while the ports run (R138). -/
theorem handFunction_change {f : LineFunction} (before : Device) {d : Device}
    (hrun : mainsFunction f = true → running d = true) : Change d (handFunction f before d) := by
  unfold handFunction
  split
  · exact .refl _
  · exact .of_laws (auxChanged_laws (hrun rfl) _)
  · split
    · exact reconnectPress_change (hrun rfl)
    · exact .refl _
  · split
    · exact .of_laws (functionDetected_laws _ _)
    · exact .refl _

theorem expireLine_change (l : Line) (d : Device) : Change d (expireLine l d) := by
  unfold expireLine
  dsimp only
  split
  case isFalse => exact .refl _
  case isTrue h =>
  refine .after ⟨(setLine_laws l _ d).mono, rfl, rfl⟩ (handFunction_change d fun hmains => ?_)
  simp only [sensed, Bool.and_eq_true, Bool.or_eq_true] at h
  obtain ⟨⟨halways, _⟩ | ⟨_, hrun⟩, _⟩ := h
  · cases hf : d.tamper.table[l].function <;> rw [hf] at hmains halways <;> cases hmains <;> cases halways
  · exact hrun

/-! ### The relay's own events (chapter 6) -/

/-- Off mains no operation is in flight, so that what a sound relay does there is not in question. -/
theorem relay_kept_of_flight {d e : Device} (hrun : running d = false) (hflight : inOperation d.relay.state = true) :
    Law.relay.kept d e := by
  rintro ⟨_, _, _, hidle⟩
  rw [hidle hrun] at hflight
  cases hflight

/-- A settling keeps every law but that of the relay, on mains or off. -/
theorem settle_laws_aside (p : Position) (d : Device) : keepsLaws [.relay] d (settle p d) := by
  have hst : inOperation (settledState p d.relay.reasons) = false := by
    cases p <;> simp only [settledState]
    · split <;> rfl
    · rfl
  have hconfirmed : keepsLaws [.relay] d (d.setRelay { d.relay with lastConfirmed := p }) :=
    ((setRelay_laws (d := d) (x := { d.relay with lastConfirmed := p }) rfl).mend id |>.mend id).mono
  exact (hconfirmed.step (enterRelay_laws _ _ hst)).step (reactToReasons_laws _)

theorem goStuck_laws_aside (c : FaultCause) (p : Position) (d : Device) : keepsLaws [.relay] d (goStuck c p d) := by
  have hfault : keepsLaws [] d (recordFault c p d) :=
    keepsLaws.step ((setRelay_laws (d := d) (x := { d.relay with fault := some _ }) rfl).mend id |>.mend id)
      (addRecord_laws _ _)
  exact hfault.mono.step (enterRelay_laws (.stuck p) _ rfl)

theorem startAttempt_open_laws_aside (second : Bool) (d : Device) : keepsLaws [.relay] d (startAttempt .open second d) := by
  have hset : keepsLaws [.drive, .relay] d (startAttempt .open second d) :=
    keepsLaws.mono (M := [.relay, .drive]) (setRelay_laws rfl)
  refine hset.mend ?_
  simp [Law.kept, closeDrive, startAttempt]

theorem setOperation_laws_aside {d : Device} {p : Position} {a : Attempt}
    (hdrive : p = .closed → a.driving = true → closeDrive d = true) :
    keepsLaws [.relay] d (d.setRelay { d.relay with state := operationState p a }) := by
  have hset : keepsLaws [.drive, .relay] d (d.setRelay { d.relay with state := operationState p a }) :=
    keepsLaws.mono (M := [.relay, .drive]) (setRelay_laws rfl)
  refine hset.mend fun h => ?_
  cases p
  · simp [closeDrive, operationState] at h
  · exact hdrive rfl h

theorem operation_eq {st : RelayState} {p : Position} {a : Attempt} (h : operation st = some (p, a)) :
    st = operationState p a := by
  cases st <;> simp only [operation, Option.some.injEq, Prod.mk.injEq, reduceCtorEq] at h
  all_goals obtain ⟨rfl, rfl⟩ := h; rfl

theorem inOperation_operationState (p : Position) (a : Attempt) : inOperation (operationState p a) = true := by
  cases p <;> rfl

section
variable {d : Device} {p : Position} {a : Attempt}

/-- The end of a drive pulse (R115). -/
theorem driveCompletion_laws (hst : d.relay.state = operationState p a) : keepsLaws [] d (endDrive p a d) := by
  cases hrun : running d
  case true => exact endDrive_laws hrun p a
  case false =>
    refine keepsLaws.mend ?_ (relay_kept_of_flight hrun (hst ▸ inOperation_operationState p a))
    unfold endDrive
    exact .ite (fun _ => settle_laws_aside p d) fun _ => setOperation_laws_aside fun _ h => absurd h (by simp)

/-- The end of a confirmation window (R116, R117). -/
theorem confirmationExpiry_laws (hst : d.relay.state = operationState p a) (hdriving : a.driving = false) :
    keepsLaws [] d (endConfirmation p a d) := by
  cases hrun : running d
  case true => exact endConfirmation_laws hrun hdriving
  case false =>
    refine keepsLaws.mend ?_ (relay_kept_of_flight hrun (hst ▸ inOperation_operationState p a))
    unfold endConfirmation
    exact .ite (fun _ => goStuck_laws_aside _ _ d) fun _ => .ite (fun _ => startAttempt_open_laws_aside _ d)
      fun _ => setOperation_laws_aside fun _ h => absurd (hdriving.symm.trans h) (by decide)

/-- The end of a retry wait: a closing drives again over an empty set alone (R116). -/
theorem retryExpiry_change (hst : d.relay.state = operationState p a) (hwaiting : a.waiting = true) :
    Change d (endRetry p d) := by
  have hlaws : keepsLaws [.drive] d (endRetry p d) := by
    cases hrun : running d
    case true => exact endRetry_laws hrun p
    case false =>
      refine keepsLaws.mend ?_ (relay_kept_of_flight hrun (hst ▸ inOperation_operationState p a))
      unfold endRetry
      exact .ite (fun _ => (startAttempt_open_laws_aside _ d).mono) fun _ => setRelay_laws rfl
  refine .driving hlaws.mono ?_
  rintro ⟨_, _, hidle⟩ _ hraised
  have hrun : running d = true := by
    by_contra hoff
    have hflight := hidle (by simpa using hoff)
    rw [hst, inOperation_operationState] at hflight
    cases hflight
  unfold endRetry givesWay at hraised ⊢
  match p with
  | .open => simp [closeDrive, startAttempt] at hraised
  | .closed =>
    cases hempty : d.relay.reasons.isEmpty
    case false => simp [hempty, closeDrive, startAttempt] at hraised
    case true =>
      simp only [Bool.not_true, Bool.and_false, Bool.false_eq_true, if_false]
      exact ⟨hempty, hrun, .inr (.inr ⟨a, hst, hwaiting⟩)⟩

end

end Sys2Proof.Machine
end

section
/-! PROOFS. The second tick: what it counts, what each of its parts moves, and the laws that hold when all its parts have
been taken, in whatever order. -/

namespace Sys2Proof.Machine

/-! ### Meter time (R46, R47) -/

theorem advanceTime_within {t : MeterTime} (h : t.second < 86399) :
    advanceTime t = { day := t.day, second := t.second + 1 } := if_pos h

theorem advanceTime_carry {t : MeterTime} (hsecond : ¬ t.second < 86399) (hday : t.day < 65535) :
    advanceTime t = { day := t.day + 1, second := 0 } := (if_neg hsecond).trans (if_pos hday)

theorem advanceTime_held {t : MeterTime} (hsecond : ¬ t.second < 86399) (hday : ¬ t.day < 65535) :
    advanceTime t = t := (if_neg hsecond).trans (if_neg hday)

theorem advanceTime_inRange {t : MeterTime} (hday : t.day ≤ 65535) (hsecond : t.second ≤ 86399) :
    (advanceTime t).day ≤ 65535 ∧ (advanceTime t).second ≤ 86399 := by
  unfold advanceTime
  split
  · exact ⟨hday, by simpa using Nat.succ_le_of_lt ‹_›⟩
  split
  · exact ⟨by simpa using Nat.succ_le_of_lt ‹_›, by simp⟩
  · exact ⟨hday, hsecond⟩

/-- A tick that reaches no minute leaves the minute and the weekday (R48). -/
theorem advanceTime_sameMinute {d : Device} (halive : alive d = true) (h : minuteNext d = false) :
    minuteOf (advanceTime d.clock.now) = minuteOf d.clock.now
      ∧ weekdayOf (advanceTime d.clock.now) = weekdayOf d.clock.now := by
  simp only [minuteNext, halive, Bool.true_and, Bool.and_eq_false_iff, bne_eq_false_iff_eq, beq_eq_false_iff_ne] at h
  rcases h with hheld | hwithin
  · rw [hheld]; exact ⟨rfl, rfl⟩
  · by_cases hsecond : d.clock.now.second < 86399
    · rw [advanceTime_within hsecond] at hwithin ⊢
      simp only [minuteOf, weekdayOf] at hwithin ⊢
      exact ⟨by omega, trivial⟩
    · by_cases hday : d.clock.now.day < 65535
      · rw [advanceTime_carry hsecond hday] at hwithin
        exact absurd rfl hwithin
      · rw [advanceTime_held hsecond hday]
        exact ⟨rfl, rfl⟩

/-! ### What a second tick counts -/

theorem countSecond_keeps (d : Device) : keepsBut [.clock, .intake, .link, .keypad, .load] d (countSecond d) := by
  intro b hb
  unfold countSecond
  dsimp only
  cases b
  case clock | intake | link | keypad | load => exact absurd (by decide) hb
  all_goals (split <;> split <;> rfl)

@[simp] theorem countSecond_clock (d : Device) : (countSecond d).clock = { d.clock with now := advanceTime d.clock.now } := by
  unfold countSecond
  dsimp only
  split <;> split <;> rfl

@[simp] theorem countSecond_intake (d : Device) :
    (countSecond d).intake
      = if d.intake.testActive then { d.intake with testTimer := d.intake.testTimer + 1 } else d.intake := by
  unfold countSecond
  dsimp only
  split <;> split <;> rfl

@[simp] theorem countSecond_link (d : Device) :
    (countSecond d).link
      = if running d then { d.link with presence := presenceSecond d.link.presence } else d.link := by
  unfold countSecond
  dsimp only
  split <;> split <;> rfl

@[simp] theorem countSecond_keypad (d : Device) : (countSecond d).keypad = keypadSecond d.keypad := by
  unfold countSecond
  dsimp only
  split <;> split <;> rfl

@[simp] theorem countSecond_load (d : Device) :
    (countSecond d).load = { d.load with backoff := d.load.backoff - 1 } := by
  unfold countSecond
  dsimp only
  split <;> split <;> rfl

/-- The keypad's timers run down, and an entry left alone empties (R105, R107). -/
theorem keypadSecond_sound {d e : Device} (he : e.keypad = keypadSecond d.keypad) (h : KeypadSound d) : KeypadSound e := by
  obtain ⟨h1, h2, h3, h4, h5, h6, h7⟩ := h
  unfold KeypadSound
  rw [he]
  unfold keypadSecond clearEntry
  dsimp only
  split
  · exact ⟨Nat.zero_le _, Nat.zero_le _, Nat.zero_le _, Nat.zero_le _, h5, h6, fun h => absurd h (by simp)⟩
  · exact ⟨h1, le_trans (Nat.sub_le _ _) h2, h3, le_trans (Nat.sub_le _ _) h4, h5, h6,
      fun h => h7 (lt_of_lt_of_le h (Nat.sub_le _ _))⟩

/-- The count of a second leaves late what its parts are to end. -/
theorem countSecond_laws (d : Device) : keepsLaws [.test, .link, .load, .reasons] d (countSecond d) := by
  refine (((countSecond_keeps d).laws (L := [.clock, .keypad, .tamper, .test, .link, .load, .reasons])).mend ?_).mend
    (keypadSecond_sound (countSecond_keypad d)) |>.mend ?_
  · rintro ⟨hday, hsecond, hset, hcharged⟩
    obtain ⟨hday', hsecond'⟩ := advanceTime_inRange hday hsecond
    unfold ClockSound
    rw [countSecond_clock]
    exact ⟨hday', hsecond', hset, hcharged⟩
  · have hopen : (countSecond d).intake.openEnergy = d.intake.openEnergy := by rw [countSecond_intake]; split <;> rfl
    have hreverse : (countSecond d).intake.reverse = d.intake.reverse := by rw [countSecond_intake]; split <;> rfl
    simp only [Law.kept, TamperSound, hopen, hreverse, (countSecond_keeps d).tamper]
    exact id

theorem countSecond_test {d : Device} (h : TestUpTo 3599 d) : TestUpTo 3600 (countSecond d) := by
  have hk := countSecond_keeps d
  refine ⟨hk.codes ▸ h.1, fun hactive => ?_⟩
  have hwas : d.intake.testActive = true := by
    rw [countSecond_intake] at hactive
    split at hactive
    · assumption
    · exact hactive
  obtain ⟨hrun, hpart, hopen, htimer⟩ := h.2 hwas
  rw [hk.running, hk.power, hk.codes, countSecond_intake, if_pos hwas]
  exact ⟨hrun, hpart, hopen, Nat.succ_le_succ htimer⟩

theorem presenceSecond_from {p : Presence} (h : presenceFrom 1 p) : presenceFrom 0 (presenceSecond p) := by
  cases p with
  | watching left => exact ⟨Nat.zero_le _, le_trans (Nat.sub_le _ _) h.2⟩
  | waitingFirst | lapsed => trivial

/-- With the ports stopped presence supervision counts no second (R100). -/
theorem countSecond_link_late {d : Device} (h : LinkFrom 1 d) : LinkFrom (if running d then 0 else 1) (countSecond d) := by
  obtain ⟨h1, h2, h3, h4, h5, h6⟩ := h
  unfold LinkFrom
  rw [(countSecond_keeps d).running, countSecond_link]
  split
  · exact ⟨h1, h2, h3, presenceSecond_from h4, h5, h6⟩
  · exact ⟨h1, h2, h3, h4, h5, h6⟩

theorem countSecond_load_late {d : Device} (h : LoadBut False d) : LoadBut (0 < d.load.backoff) (countSecond d) := by
  obtain ⟨h1, h2, h3, h4, h5, h6⟩ := h
  unfold LoadBut
  rw [countSecond_load, (countSecond_keeps d).relay]
  refine ⟨h1, h2, h3, le_trans (Nat.sub_le _ _) h4, h5, ?_⟩
  have hload := h6.resolve_right fun h => h.1
  rcases Nat.lt_trichotomy d.load.backoff 1 with h | h | h
  · left; rw [hload]; simp; omega
  · right; dsimp only; omega
  · left; rw [hload]; simp; omega

/-- CREDIT follows meter time by its minute alone (R36). -/
theorem countSecond_reasons_late {d : Device} (halive : alive d = true) (h : ReasonsBut False d) :
    ReasonsBut (minuteNext d = true) (countSecond d) := by
  have hk := countSecond_keeps d
  intro hpart
  rw [hk.power] at hpart
  obtain ⟨hcredit, haccount, htamper⟩ := h hpart
  rw [accountReasonOf_congr hk.power, tamperReasonOf_congr hk.tamper, hk.relay]
  refine ⟨?_, haccount, htamper⟩
  cases hminute : minuteNext d
  case true => exact .inr rfl
  case false =>
    obtain ⟨hm, hw⟩ := advanceTime_sameMinute halive hminute
    left
    rw [hcredit.resolve_right id]
    simp only [creditReasonOf, insideWindow, hk.power, hk.account, hk.settings, countSecond_clock, hm, hw]

/-! ### The parts of a tick -/

/-- Day processing at a minute boundary that is a day boundary too (R48, R53). -/
def minuteProcessed (day : Bool) (d : Device) : Device :=
  if day ∧ d.power.supply = .mains ∧ d.power.part ≠ .initializing then dayProcessing d else d

/-- The activation test that follows it (R48, R62). -/
def minuteTested (day : Bool) (d : Device) : Device :=
  if d.power.part ≠ .initializing then activationTest (minuteProcessed day d) else minuteProcessed day d

theorem minuteStep_eq (day : Bool) (d : Device) :
    minuteStep day d = lockoutMinute (windowMinute (recomputeCreditReason (minuteTested day d))) := rfl

theorem minuteTested_laws (day : Bool) (d : Device) : keepsLaws [] d (minuteTested day d) := by
  have hprocessed : keepsLaws [] d (minuteProcessed day d) := by
    unfold minuteProcessed
    exact .ite (fun _ => dayProcessing_laws d) fun _ => .refl _ _
  unfold minuteTested
  exact .ite (fun _ => hprocessed.step (activationTest_laws _)) fun _ => hprocessed

theorem lockoutMinute_laws (d : Device) : keepsLaws [] d (lockoutMinute d) := by
  refine setKeypad_laws ?_
  rintro ⟨h1, h2, h3, h4, h5, h6, h7⟩
  exact ⟨h1, h2, h3, h4, h5, le_trans (Nat.sub_le _ _) h6, h7⟩

theorem minuteStep_laws (day : Bool) (d : Device) : keepsLaws [] d (minuteStep day d) := by
  rw [minuteStep_eq]
  exact (((minuteTested_laws day d).step (recomputeCreditReason_laws _)).step (windowMinute_laws _)).step
    (lockoutMinute_laws _)

theorem backoffStep_laws (ran : Bool) (d : Device) : keepsLaws [] d (backoffStep ran d) := by
  unfold backoffStep
  refine .ite (fun hend => (setReason_load_laws false d).mend ?_) fun _ => .refl _ _
  rintro late ⟨h1, h2, h3, h4, h5, _⟩
  unfold LoadBut
  rw [(setReason_keeps _ _ _).load, setReason_reasons]
  exact ⟨h1, h2, h3, h4, h5, .inl (by simp [Reasons.put, hend.2])⟩

theorem lapsed_laws (d : Device) : keepsLaws [] d (d.setLink { d.link with presence := .lapsed }) := by
  refine setLink_laws ?_
  rintro bound _ ⟨h1, h2, h3, _, h5, h6⟩
  exact ⟨h1, h2, h3, trivial, h5, h6⟩

theorem presenceStep_laws (d : Device) : keepsLaws [] d (presenceStep d) := by
  unfold presenceStep
  exact .ite (fun _ => (lapsed_laws d).step (detect_laws _ _ _)) fun _ => .refl _ _

theorem tickPart_laws (before : Device) (p : TickPart) (d : Device) : keepsLaws [] d (tickPart before p d) := by
  unfold tickPart
  split
  · exact .ite (fun _ => minuteStep_laws _ d) fun _ => .refl _ _
  · exact .ite (fun _ => slotStep_laws d) fun _ => .refl _ _
  · exact backoffStep_laws _ d
  · exact .ite (fun _ => endTest_laws _ d) fun _ => .refl _ _
  · exact .ite (fun _ => presenceStep_laws d) fun _ => .refl _ _

theorem notedPart_laws (before d : Device) (p : TickPart) : keepsLaws [] d (notedPart before d p) :=
  (tickPart_laws before p d).step (noteDisplay_laws _ _)

/-- The test ends at its hour (R19). -/
theorem testStep_ends {bound : Nat} {d : Device} (h : TestUpTo bound d) : TestUpTo 3599 (testStep d) := by
  unfold testStep
  split
  case isTrue => exact ⟨(endTest_keeps _ d).codes ▸ h.1, fun hactive =>
    absurd ((endTest_over .expiry d).symm.trans hactive) (by decide)⟩
  case isFalse hearly =>
    refine ⟨h.1, fun hactive => ?_⟩
    obtain ⟨hrun, hpart, hopen, _⟩ := h.2 hactive
    exact ⟨hrun, hpart, hopen, Nat.le_of_lt_succ (Nat.not_le.mp hearly)⟩

/-- Presence lapses at 0 (R100). -/
theorem presenceStep_lapses {d : Device} (h : LinkFrom 0 d) : LinkFrom 1 (presenceStep d) := by
  unfold presenceStep
  split
  case isTrue hzero =>
    obtain ⟨h1, h2, h3, _, h5, h6⟩ := h
    exact detect_laws _ _ (d.setLink { d.link with presence := .lapsed }) .link (by simp) 1 (by decide)
      ⟨h1, h2, h3, trivial, h5, h6⟩
  case isFalse hleft =>
    obtain ⟨h1, h2, h3, h4, h5, h6⟩ := h
    refine ⟨h1, h2, h3, ?_, h5, h6⟩
    cases hp : d.link.presence with
    | watching left =>
      rw [hp] at h4 hleft
      refine ⟨?_, h4.2⟩
      rcases Nat.eq_zero_or_pos left with rfl | hpos
      · exact absurd rfl hleft
      · exact hpos
    | waitingFirst | lapsed => trivial

/-- LOAD leaves the set as the backoff ends (R131). -/
theorem backoffStep_ends {ran : Bool} {d : Device} (h : LoadBut (ran = true) d) : LoadBut False (backoffStep ran d) := by
  have hk := setReason_keeps .load false d
  obtain ⟨h1, h2, h3, h4, h5, h6⟩ := h
  unfold backoffStep
  split
  case isTrue hend =>
    unfold LoadBut
    rw [hk.load, setReason_reasons]
    exact ⟨h1, h2, h3, h4, h5, .inl (by simp [Reasons.put, hend.2])⟩
  case isFalse hruns => exact ⟨h1, h2, h3, h4, h5, .inl (h6.resolve_right fun hlate => hruns hlate)⟩

/-- A minute boundary recomputes CREDIT (R39). -/
theorem minuteStep_recomputes {late : Prop} {day : Bool} {d : Device} (h : ReasonsBut late d) :
    ReasonsBut False (minuteStep day d) := by
  have hreasons : ReasonsBut late (minuteTested day d) := minuteTested_laws day d .reasons (by simp) late h
  have hk := recomputeCreditReason_keeps (minuteTested day d)
  have hcurrent : ReasonsBut False (recomputeCreditReason (minuteTested day d)) := by
    intro hpart
    have hpart' : (minuteTested day d).power.part ≠ .initializing := hk.power ▸ hpart
    obtain ⟨_, haccount, htamper⟩ := hreasons hpart'
    rw [creditReasonOf_congr hk.power hk.account hk.settings hk.clock, accountReasonOf_congr hk.power,
      tamperReasonOf_congr hk.tamper, ← haccount, ← htamper]
    simp only [recomputeCreditReason, if_neg hpart', setReason_reasons]
    exact ⟨.inl rfl, rfl, rfl⟩
  rw [minuteStep_eq]
  exact ((windowMinute_laws _).step (lockoutMinute_laws _)) .reasons (by simp) False hcurrent

/-! ### All the parts, in any order -/

/-- Among events that all keep two predicates, one that leads from the first to the second establishes the second. -/
theorem foldl_establishes {α : Type} {op : Device → α → Device} {W S : Device → Prop} (hW : ∀ e a, W e → W (op e a))
    (hS : ∀ e a, S e → S (op e a)) {p : α} (hp : ∀ e, W e → S (op e p)) {l : List α} (hmem : p ∈ l) {d : Device}
    (hd : W d) : S (l.foldl op d) := by
  have hstays : ∀ (l : List α) e, S e → S (l.foldl op e) := by
    intro l
    induction l with
    | nil => exact fun _ => id
    | cons a l ih => exact fun e he => ih _ (hS e a he)
  induction l generalizing d with
  | nil => cases hmem
  | cons a l ih =>
    rcases List.mem_cons.mp hmem with rfl | hmem
    · exact hstays l _ (hp d hd)
    · exact ih hmem (hW d a hd)

theorem mem_tickOrder (first : List TickPart) (p : TickPart) : p ∈ tickOrder first := by
  rw [tickOrder, (takeFirst_perm first _).mem_iff]
  cases p <;> simp

section
variable {d : Device} (order : List TickPart)

theorem tick_laws : keepsLaws [.test, .link, .load, .reasons] d (secondStep order d) := by
  unfold secondStep
  refine .ite (fun _ => ?_) fun _ => .refl _ _
  exact ((countSecond_laws d).step (noteDisplay_laws _ _)).foldl (fun e p => (notedPart_laws d e p).mono) order

variable (hall : ∀ p, p ∈ order)
include hall

theorem tick_test (h : TestSound d) : TestSound (secondStep order d) := by
  rw [testSound_iff] at h ⊢
  unfold secondStep
  split
  case isFalse => exact h
  refine foldl_establishes (W := TestUpTo 3600) (S := TestUpTo 3599) (fun e p => notedPart_laws d e p .test (by simp) _)
    (fun e p => notedPart_laws d e p .test (by simp) _) (p := .test) (fun e he => ?_) (hall .test) ?_
  · exact noteDisplay_laws _ _ .test (by simp) _ (testStep_ends he)
  · exact noteDisplay_laws _ _ .test (by simp) _ (countSecond_test h)

theorem tick_link (h : LinkSound d) : LinkSound (secondStep order d) := by
  rw [linkSound_iff] at h ⊢
  unfold secondStep
  split
  case isFalse => exact h
  have hbound : (if running d then 0 else 1) ≤ 60 := by split <;> decide
  refine foldl_establishes (W := LinkFrom (if running d then 0 else 1)) (S := LinkFrom 1)
    (fun e p => notedPart_laws d e p .link (by simp) _ hbound) (fun e p => notedPart_laws d e p .link (by simp) _ (by decide))
    (p := .presence) (fun e he => ?_) (hall .presence) ?_
  · refine noteDisplay_laws _ _ .link (by simp) _ (by decide) ?_
    unfold tickPart
    dsimp only
    split
    case isTrue hrun => exact presenceStep_lapses (by simpa [hrun] using he)
    case isFalse hoff => simpa [hoff] using he
  · exact noteDisplay_laws _ _ .link (by simp) _ hbound (countSecond_link_late h)

theorem tick_load (h : LoadSound d) : LoadSound (secondStep order d) := by
  rw [loadSound_iff] at h ⊢
  unfold secondStep
  split
  case isFalse => exact h
  refine foldl_establishes (W := LoadBut (0 < d.load.backoff)) (S := LoadBut False)
    (fun e p => notedPart_laws d e p .load (by simp) _) (fun e p => notedPart_laws d e p .load (by simp) _)
    (p := .backoff) (fun e he => ?_) (hall .backoff) ?_
  · exact noteDisplay_laws _ _ .load (by simp) _ (backoffStep_ends (by simpa using he))
  · exact noteDisplay_laws _ _ .load (by simp) _ (countSecond_load_late h)

theorem tick_reasons (h : ReasonsSound d) : ReasonsSound (secondStep order d) := by
  rw [reasonsSound_iff] at h ⊢
  unfold secondStep
  split
  case isFalse => exact h
  case isTrue halive =>
  refine foldl_establishes (W := ReasonsBut (minuteNext d = true)) (S := ReasonsBut False)
    (fun e p => notedPart_laws d e p .reasons (by simp) _) (fun e p => notedPart_laws d e p .reasons (by simp) _)
    (p := .boundary) (fun e he => ?_) (hall .boundary) ?_
  · refine noteDisplay_laws _ _ .reasons (by simp) _ ?_
    unfold tickPart
    dsimp only
    split
    case isTrue => exact minuteStep_recomputes he
    case isFalse hwithin => simpa [hwithin] using he
  · exact noteDisplay_laws _ _ .reasons (by simp) _ (countSecond_reasons_late halive h)

end

end Sys2Proof.Machine
end

section
/-! PROOFS. The laws that the requests of the two ports keep. -/

namespace Sys2Proof.Machine

/-! ### The log's cursors (R157, R158, R159) -/

/-- The cursors and the mark move within the numbering; the records stand. -/
theorem setLog_laws {d : Device} {x : Log} (hrecords : x.records = d.log.records) (hnext : x.next = d.log.next)
    (hcursors : LogSound d → x.hostCursor ≤ d.log.next ∧ x.serviceCursor ≤ d.log.next
      ∧ ∀ m ∈ x.mark, m ≤ d.log.next) :
    keepsLaws [] d (d.setLog x) := by
  refine ((setLog_keeps d x).laws (L := [.log])).mend fun h => ?_
  obtain ⟨hhost, hservice, hmark⟩ := hcursors h
  obtain ⟨h1, h2, h3, h4, _, _, _, h8⟩ := h
  simp only [LogSound, heldNumbers, Device.setLog_log, Device.setLog_tamper, hrecords, hnext] at h1 h2 h3 h4 h8 ⊢
  exact ⟨h1, h2, h3, h4, hhost, hservice, hmark, h8⟩

theorem LogSound.cursors {d : Device} (h : LogSound d) :
    d.log.hostCursor ≤ d.log.next ∧ d.log.serviceCursor ≤ d.log.next ∧ ∀ m ∈ d.log.mark, m ≤ d.log.next := by
  obtain ⟨_, _, _, _, h5, h6, h7, _⟩ := h
  exact ⟨h5, h6, h7⟩

/-- Every record's number is below the next one. -/
theorem LogSound.number_lt {d : Device} (h : LogSound d) {r : LogRecord} (hr : r ∈ d.log.records) :
    r.number < d.log.next := by
  obtain ⟨_, _, hbelow, _⟩ := h
  exact hbelow _ (List.mem_map_of_mem hr)

theorem cursorAfter_le {d : Device} (h : LogSound d) {batch cursor : Nat} (hcursor : cursor ≤ d.log.next) :
    cursorAfter batch cursor d.log ≤ d.log.next := by
  unfold cursorAfter
  split
  case h_1 r hr =>
    have hmem := List.mem_of_getLast? hr
    exact h.number_lt (List.mem_of_mem_filter (List.mem_of_mem_take hmem))
  case h_2 => exact hcursor

theorem oldestNumber_le {d : Device} (h : LogSound d) {cursor : Nat} (hcursor : cursor ≤ d.log.next) :
    oldestNumber cursor d.log ≤ d.log.next := by
  unfold oldestNumber
  cases hr : d.log.records.head? with
  | none => exact hcursor
  | some r => exact Nat.le_of_lt (h.number_lt (List.mem_of_head? hr))

theorem newestNumber_le {d : Device} (h : LogSound d) {cursor : Nat} (hcursor : cursor ≤ d.log.next) :
    newestNumber cursor d.log ≤ d.log.next := by
  unfold newestNumber
  cases hr : d.log.records.getLast? with
  | none => exact hcursor
  | some r => exact Nat.le_of_lt (h.number_lt (List.mem_of_getLast? hr))

theorem setHostCursor_laws {d : Device} {n : Nat} (hn : LogSound d → n ≤ d.log.next) :
    keepsLaws [] d (d.setLog { d.log with hostCursor := n }) :=
  setLog_laws rfl rfl fun h => ⟨hn h, h.cursors.2.1, h.cursors.2.2⟩

theorem setServiceCursor_laws {d : Device} {n : Nat} (hn : LogSound d → n ≤ d.log.next) :
    keepsLaws [] d (d.setLog { d.log with serviceCursor := n }) :=
  setLog_laws rfl rfl fun h => ⟨h.cursors.1, hn h, h.cursors.2.2⟩

theorem setMark_laws {d : Device} {m : Option Nat} (hm : LogSound d → ∀ n ∈ m, n ≤ d.log.next) :
    keepsLaws [] d (d.setLog { d.log with mark := m }) :=
  setLog_laws rfl rfl fun h => ⟨h.cursors.1, h.cursors.2.1, hm h⟩

/-! ### The service port's framing, the meter host port's responses -/

/-- A change of the service port away from a write in flight. -/
theorem setService_laws {d : Device} {x : ServicePort} (h : x.commissioning = d.service.commissioning) :
    keepsLaws [] d (d.setService x) := by
  refine ((setService_keeps d x).laws (L := [.store])).mend ?_
  simp only [Law.kept, StoreSound, Device.setService_service, h]
  exact fun h => ⟨h, fun _ => id⟩

/-- A change of the meter host port away from its notices. -/
theorem setHost_laws {d : Device} {x : HostPort} (h : x.notices = d.host.notices) :
    keepsLaws [.host] d (d.setHost x) := by
  refine ((setHost_keeps d x).laws (L := [.notices, .host])).mend ?_
  simp only [Law.kept, Device.setHost_host, h]
  exact fun _ => id

theorem prepare_laws (a : Answer) (d : Device) : keepsLaws [.host] d (prepare a d) := setHost_laws rfl

theorem badHostFrame_laws (d : Device) : keepsLaws [.host] d (badHostFrame d) := by
  have hcounted : ∀ n, keepsLaws [.host] d (d.setHost { d.host with badFrames := n }) := fun _ => setHost_laws rfl
  exact (hcounted _).step (prepare_laws _ _)

theorem huntService_laws (d : Device) : keepsLaws [] d (huntService d) := setService_laws rfl

theorem replyWith_laws (c : Byte) (a : Option Answer) (d : Device) : keepsLaws [] d (replyWith c a d) := by
  unfold replyWith
  split
  · exact .refl _ _
  · exact setService_laws rfl

/-! ### Configuration (R183) -/

/-- A configuration value within the bounds of Table 10-3. -/
def ConfigInRange : ConfigWrite → Prop
  | .lowLevel n => n ≤ Config.amountTop
  | .friendlyFloor x => -(Config.amountTop : Int) ≤ x ∧ x ≤ 0
  | .emergencyAmount n => n ≤ Config.amountTop
  | .emergencyThreshold n => n ≤ Config.amountTop
  | .friendlyWindow _ e => windowInRange e = true
  | .loadLimit n => n ≤ 99999
  | .bypassThreshold n => 1 ≤ n ∧ n ≤ 255
  | .reverseThreshold n => 1 ≤ n ∧ n ≤ 255
  | _ => True

theorem clampFloor_range (x : Int) : -(Config.amountTop : Int) ≤ clampFloor x ∧ clampFloor x ≤ 0 := by
  unfold clampFloor
  simp only [Config.amountTop]
  omega

theorem clampThreshold_range (n : Nat) : 1 ≤ clampThreshold n ∧ clampThreshold n ≤ 255 := by
  unfold clampThreshold
  omega

theorem clampWindow_inRange (a b m : Nat) : windowInRange (clampWindow a b m) = true := by
  simp [windowInRange, clampWindow]

theorem configWrite_inRange {p : List Byte} {w : ConfigWrite} (h : configWrite p = some w) : ConfigInRange w := by
  unfold configWrite at h
  split at h
  case h_1 => obtain rfl := Option.some.inj h; exact Nat.min_le_right _ _
  case h_2 => obtain rfl := Option.some.inj h; exact clampFloor_range _
  case h_3 => obtain rfl := Option.some.inj h; exact Nat.min_le_right _ _
  case h_4 => obtain rfl := Option.some.inj h; exact Nat.min_le_right _ _
  case h_5 =>
    split at h
    · obtain rfl := Option.some.inj h; exact clampWindow_inRange _ _ _
    · cases h
  case h_6 => obtain rfl := Option.some.inj h; trivial
  case h_7 => obtain rfl := Option.some.inj h; trivial
  case h_8 => obtain rfl := Option.some.inj h; exact Nat.min_le_right _ _
  case h_9 => obtain rfl := Option.some.inj h; exact clampThreshold_range _
  case h_10 => obtain rfl := Option.some.inj h; exact clampThreshold_range _
  case h_11 =>
    obtain ⟨s, _, rfl⟩ := Option.map_eq_some_iff.mp h
    trivial
  case h_12 => cases h

/-- The settings of the account are in their ranges (R24, R35). -/
def SettingsInRange (s : Settings) : Prop :=
  s.lowLevel ≤ Config.amountTop ∧ s.emergencyAmount ≤ Config.amountTop ∧ s.emergencyThreshold ≤ Config.amountTop
    ∧ -(Config.amountTop : Int) ≤ s.friendlyFloor ∧ s.friendlyFloor ≤ 0 ∧ s.windows.toList.all windowInRange = true

theorem AccountSound.settings {d : Device} (h : AccountSound d) : SettingsInRange d.settings := by
  obtain ⟨_, _, _, _, _, _, _, _, _, h⟩ := h
  exact h

/-- Other settings in their ranges, under the same L: the credit state stands. -/
theorem account_kept_of_settings {d e : Device} (ha : e.account = d.account) (hr : e.residue = d.residue)
    (hl : e.settings.lowLevel = d.settings.lowLevel) (hs : SettingsInRange d.settings → SettingsInRange e.settings) :
    Law.account.kept d e := by
  intro h
  have hsettings := hs h.settings
  obtain ⟨h1, h2, h3, h4, h5, h6, h7, h8, h9, _⟩ := h
  unfold AccountSound
  rw [ha, hr]
  exact ⟨h1, h2, h3, h4, h5, h6, h7, hl ▸ h8, h9, hsettings⟩

theorem windows_all_set {v : Vector FriendlyWindow 4} {i : Fin 4} {e : FriendlyWindow}
    (hv : v.toList.all windowInRange = true) (he : windowInRange e = true) :
    (v.set i e).toList.all windowInRange = true := by
  rw [List.all_eq_true] at hv ⊢
  intro w hw
  rw [Vector.toList_set] at hw
  rcases List.mem_or_eq_of_mem_set hw with hw | rfl
  · exact hv w hw
  · exact he

theorem setSettings_keeps (d : Device) (x : Settings) : keepsBut [.settings] d (d.setSettings x) := by
  intro b hb; cases b <;> simp_all [Block.same]

/-- Settings that CREDIT looks at, which is recomputed after them (R39). -/
theorem setSettings_credit_laws {d : Device} {x : Settings} (hl : x.lowLevel = d.settings.lowLevel)
    (hx : SettingsInRange d.settings → SettingsInRange x) : keepsLaws [] d (recomputeCreditReason (d.setSettings x)) := by
  have hset : keepsLaws [.reasons] d (d.setSettings x) :=
    ((setSettings_keeps d x).laws (L := [.account, .reasons])).mend (account_kept_of_settings rfl rfl hl hx)
  exact (hset.step (recomputeCreditReason_laws _)).mend (reasons_kept_recomputeCredit rfl rfl rfl)

/-- Settings that CREDIT does not look at. -/
theorem setSettings_amount_laws {d : Device} {x : Settings} (hl : x.lowLevel = d.settings.lowLevel)
    (hfloor : x.friendlyFloor = d.settings.friendlyFloor) (hwindows : x.windows = d.settings.windows)
    (hx : SettingsInRange d.settings → SettingsInRange x) : keepsLaws [] d (d.setSettings x) := by
  refine (((setSettings_keeps d x).laws (L := [.account, .reasons])).mend (account_kept_of_settings rfl rfl hl hx)).mend ?_
  simp only [Law.kept, ReasonsBut, creditReasonOf, insideWindow, Device.setSettings_settings, hfloor, hwindows]
  exact fun _ => id

theorem restartPresence_from {bound : Nat} (hbound : bound ≤ 60) {p : Presence} (h : presenceFrom bound p) :
    presenceFrom bound (restartPresence p) := by
  cases p with
  | watching left => exact ⟨hbound, le_rfl⟩
  | waitingFirst | lapsed => trivial

theorem stopLink_laws (d : Device) : keepsLaws [] d (stopLink d) := by
  refine setLink_laws ?_
  rintro bound _ ⟨h1, h2, h3, h4, _, _⟩
  exact ⟨h1, h2, h3, h4, rfl, fun _ => ⟨rfl, rfl⟩⟩

theorem startLink_laws (d : Device) : keepsLaws [] d (startLink d) := by
  refine setLink_laws ?_
  rintro bound hbound ⟨h1, h2, h3, h4, _, h6⟩
  exact ⟨h1, h2, h3, restartPresence_from hbound h4, rfl, fun hoff => ⟨(h6 hoff).1, rfl⟩⟩

theorem writeRate_laws (r : LinkRate) (d : Device) : keepsLaws [] d (writeRate r d) := by
  unfold writeRate
  exact ((stopLink_laws d).step (M := []) (setLink_laws fun _ _ => id)).step (startLink_laws _)

theorem writeLowLevel_laws {n : Nat} (hn : n ≤ Config.amountTop) (d : Device) :
    keepsLaws [] d (recomputeCredit (d.setSettings { d.settings with lowLevel := n })) := by
  have hstate := recomputeCreditState_account (d.setSettings { d.settings with lowLevel := n })
  have hframe := recomputeCredit_keeps (d.setSettings { d.settings with lowLevel := n })
  refine recomputeCredit_laws (setSettings_keeps d _).laws rfl rfl rfl fun h => ?_
  have hsettings := h.settings
  obtain ⟨h1, h2, h3, h4, h5, h6, h7, _, h9, _⟩ := h
  unfold AccountSound
  rw [hframe.residue, hframe.settings, recomputeCredit, (recomputeCreditReason_keeps _).account, hstate]
  exact ⟨h1, h2, h3, h4, h5, h6, h7, rfl, h9, hn, hsettings.2⟩

theorem configEffect_laws {w : ConfigWrite} (hw : ConfigInRange w) (d : Device) : keepsLaws [] d (configEffect w d) := by
  have hthreshold : ∀ x : Tamper, x.sources = d.tamper.sources → (TamperSound d → TamperSound (d.setTamper x)) →
      keepsLaws [] d (d.setTamper x) := fun x => setTamper_laws
  cases w with
  | lowLevel n => exact writeLowLevel_laws hw d
  | friendlyFloor x =>
    refine setSettings_credit_laws rfl ?_
    rintro ⟨h1, h2, h3, _, _, h6⟩
    exact ⟨h1, h2, h3, hw.1, hw.2, h6⟩
  | emergencyAmount n =>
    refine setSettings_amount_laws rfl rfl rfl ?_
    rintro ⟨h1, _, hrest⟩
    exact ⟨h1, hw, hrest⟩
  | emergencyThreshold n =>
    refine setSettings_amount_laws rfl rfl rfl ?_
    rintro ⟨h1, h2, _, hrest⟩
    exact ⟨h1, h2, hw, hrest⟩
  | friendlyWindow i e =>
    refine setSettings_credit_laws rfl ?_
    rintro ⟨h1, h2, h3, h4, h5, h6⟩
    exact ⟨h1, h2, h3, h4, h5, windows_all_set h6 hw⟩
  | codeValidityDays n =>
    exact ((setCodes_window_laws (d := d) (x := { d.codes with validityDays := n }) rfl rfl rfl rfl rfl).mend fun _ => id)
  | linkRate r => exact writeRate_laws r d
  | loadLimit n => exact writeLimit_laws hw d
  | bypassThreshold n =>
    refine setTamper_laws rfl ?_
    rintro ⟨h1, h2, _, _, hrest⟩
    exact ⟨h1, h2, hw.1, hw.2, hrest⟩
  | reverseThreshold n =>
    refine setTamper_laws rfl ?_
    rintro ⟨h1, h2, h3, h4, _, _, hrest⟩
    exact ⟨h1, h2, h3, h4, hw.1, hw.2, hrest⟩
  | sourceAction s a => exact writeAction_laws s a d

/-! ### Requests -/

/-- What a request keeps, taken while the ports run. -/
def HandlerLaws (L : List Law) (h : Handler) : Prop := ∀ d, running d = true → keepsLaws L d (h d).1

section
variable {L : List Law} {h : Handler}

theorem noParameters_laws (p : List Byte) (hh : HandlerLaws L h) : HandlerLaws L (noParameters p h) := by
  intro d hrun
  unfold noParameters
  split
  · exact hh d hrun
  · exact .refl _ _

theorem reading_laws (data : Device → List Byte) : HandlerLaws L (reading data) := fun d _ => .refl _ d

theorem pagedRead_laws (p : List Byte) (f : Device → List (List Byte)) : HandlerLaws L (pagedRead p f) := by
  intro d _
  unfold pagedRead
  repeat' split
  all_goals exact .refl _ _

theorem readTariff_laws (p : List Byte) : HandlerLaws L (readTariffHandler p) := by
  intro d _
  unfold readTariffHandler
  repeat' split
  all_goals exact .refl _ _

theorem getTariff_laws (p : List Byte) : HandlerLaws L (getTariffHandler p) := by
  intro d _
  unfold getTariffHandler
  repeat' split
  all_goals exact .refl _ _

end

theorem putTariff_laws (p : List Byte) : HandlerLaws [] (putTariff p) := by
  intro d _
  unfold putTariff
  split
  · exact .refl _ _
  · split
    case isTrue hvalid => exact setPending_laws fun q hq => by obtain rfl := Option.mem_some.mp hq; exact hvalid
    case isFalse => exact .refl _ _

theorem cancelPending_laws : HandlerLaws [] cancelPending := by
  intro d _
  unfold cancelPending
  split
  · exact .refl _ _
  · exact setPending_laws fun q hq => by cases hq

theorem noticeTariff_laws {h : Handler} (hh : HandlerLaws [] h) : HandlerLaws [] (noticeTariff h) := by
  intro d hrun
  unfold noticeTariff
  split
  · exact (hh d hrun).step (raiseNotice_laws _ _)
  · exact hh d hrun

theorem submitPort_handler_laws {w : CodeSource} (hw : w ≠ .keypad) (p : List Byte) : HandlerLaws [] (submitPort w p) :=
  fun d _ => submitPort_laws hw p d

theorem beNat_lt (l : List Byte) : beNat l < 256 ^ l.length := by
  unfold beNat
  induction l using List.reverseRecOn with
  | nil => simp
  | append_singleton l b ih =>
    rw [List.foldl_append, List.length_append, List.length_singleton, Nat.pow_succ]
    have hb := b.isLt
    simp only [List.foldl_cons, List.foldl_nil]
    omega

theorem timeOf_day {p : List Byte} {t : MeterTime} (h : timeOf p = some t) : t.day ≤ 65535 := by
  unfold timeOf at h
  split at h
  · obtain rfl := Option.some.inj h
    have hlt := beNat_lt (p.take 2)
    have hlen := List.length_take_le 2 p
    have hpow : 256 ^ (p.take 2).length ≤ 256 ^ 2 := Nat.pow_le_pow_right (by decide) hlen
    dsimp only
    omega
  · cases h

theorem timeOfSeconds_inRange {n : Nat} (h : n ≤ 65535 * 86400 + 86399) :
    (timeOfSeconds n).day ≤ 65535 ∧ (timeOfSeconds n).second ≤ 86399 := by
  simp only [timeOfSeconds, Config.daySeconds]
  omega

theorem movedTime_inRange (t : MeterTime) (step : Int) :
    (movedTime t step).day ≤ 65535 ∧ (movedTime t step).second ≤ 86399 :=
  timeOfSeconds_inRange (Nat.min_le_left _ _)

theorem hostNewTime_inRange {t : MeterTime} {d : Device} (hday : t.day ≤ 65535) (hsecond : t.second ≤ 86399) :
    (hostNewTime t d).day ≤ 65535 ∧ (hostNewTime t d).second ≤ 86399 := by
  unfold hostNewTime
  split
  · exact movedTime_inRange _ _
  · exact ⟨hday, hsecond⟩

theorem hostTime_laws (p : List Byte) : HandlerLaws [] (hostTimeHandler p) := by
  intro d _
  unfold hostTimeHandler
  split
  · exact .refl _ _
  case h_2 t ht =>
    split
    · exact .refl _ _
    case isFalse hsecond =>
      obtain ⟨hday', hsecond'⟩ := hostNewTime_inRange (d := d) (timeOf_day ht) (Nat.not_lt.mp hsecond)
      dsimp only
      exact .ite (fun _ => (applySetTime_laws hday' hsecond' d).step (raiseNotice_laws _ _))
        fun _ => applySetTime_laws hday' hsecond' d

theorem serviceTime_laws (p : List Byte) : HandlerLaws [] (serviceTimeHandler p) := by
  intro d _
  unfold serviceTimeHandler
  split
  · exact .refl _ _
  case h_2 t ht =>
    split
    · exact .refl _ _
    case isFalse hsecond => exact applySetTime_laws (timeOf_day ht) (Nat.not_lt.mp hsecond) d

theorem remote_laws (hold : Bool) : HandlerLaws [] (remoteHandler hold) :=
  fun d _ => setReason_held_laws (.inl rfl) hold d

theorem hold_laws (hold : Bool) : HandlerLaws [] (holdHandler hold) :=
  fun d _ => setReason_held_laws (.inr rfl) hold d

theorem metrology_laws (p : List Byte) : HandlerLaws [] (metrologyHandler p) := by
  intro d _
  unfold metrologyHandler
  split
  · exact detect_laws _ _ d
  · exact .refl _ _

theorem codeResult_laws : HandlerLaws [.host] codeResultHandler := fun _ _ => setHost_laws rfl

theorem hostLog_laws : HandlerLaws [] hostLogHandler :=
  fun _ _ => setHostCursor_laws fun h => cursorAfter_le h h.cursors.1

theorem serviceLog_laws : HandlerLaws [] serviceLogHandler :=
  fun _ _ => setServiceCursor_laws fun h => cursorAfter_le h h.cursors.2.1

theorem hostOldest_laws : HandlerLaws [] fun d => moveHostCursor (oldestNumber d.log.hostCursor d.log) d :=
  fun _ _ => setHostCursor_laws fun h => oldestNumber_le h h.cursors.1

theorem hostNewest_laws : HandlerLaws [] fun d => moveHostCursor (newestNumber d.log.hostCursor d.log) d :=
  fun _ _ => setHostCursor_laws fun h => newestNumber_le h h.cursors.1

theorem serviceOldest_laws : HandlerLaws [] fun d => moveServiceCursor (oldestNumber d.log.serviceCursor d.log) d :=
  fun _ _ => setServiceCursor_laws fun h => oldestNumber_le h h.cursors.2.1

theorem serviceNewest_laws : HandlerLaws [] fun d => moveServiceCursor (newestNumber d.log.serviceCursor d.log) d :=
  fun _ _ => setServiceCursor_laws fun h => newestNumber_le h h.cursors.2.1

theorem mark_laws : HandlerLaws [] markHandler :=
  fun _ _ => setMark_laws fun h n hn => by obtain rfl := Option.mem_some.mp hn; exact h.cursors.1

theorem return_laws : HandlerLaws [] returnHandler := by
  intro d _
  unfold returnHandler
  split
  · exact .refl _ _
  case h_2 m hm => exact setHostCursor_laws fun h => h.cursors.2.2 m hm

theorem notices_laws : HandlerLaws [.host, .notices] noticesHandler := fun d _ => (setHost_keeps d _).laws

theorem enable_laws (p : List Byte) : HandlerLaws [.host] (enableHandler p) := by
  intro d _
  unfold enableHandler
  split
  · exact setHost_laws rfl
  · exact .refl _ _

theorem clearEntry_laws (d : Device) : keepsLaws [] d (d.setKeypad (clearEntry d.keypad)) := by
  refine setKeypad_laws ?_
  rintro ⟨_, _, _, _, h5, h6, _⟩
  exact ⟨Nat.zero_le _, Nat.zero_le _, Nat.zero_le _, Nat.zero_le _, h5, h6, fun _ => rfl⟩

theorem clearCounts_laws (d : Device) :
    keepsLaws [] d (d.setLink { d.link with parityErrors := 0, framingErrors := 0, badFrames := 0 }) := by
  refine setLink_laws ?_
  rintro bound _ ⟨_, _, _, h4, h5, h6⟩
  exact ⟨Nat.zero_le _, Nat.zero_le _, Nat.zero_le _, h4, h5, h6⟩

theorem restart_laws (d : Device) : keepsLaws [.host, .notices] d (restart d) := by
  have haborted : keepsLaws [.host, .notices] d (abortCodes (endTest .restart d)) :=
    ((endTest_laws _ d).mono).step (abortCodes_laws _)
  unfold restart
  dsimp only
  exact (((((haborted.step (clearEntry_laws _)).step (zeroDemand_laws _)).step (clearCounts_laws _)).step (M := [])
    (setMark_laws fun _ n hn => by cases hn))).step ((setHost_keeps _ _).laws (L := [.host, .notices]))

theorem config_laws (p : List Byte) : HandlerLaws [] (configHandler p) := by
  intro d _
  unfold configHandler
  split
  · exact .refl _ _
  case h_2 w hw => exact (addRecord_laws _ d).step (configEffect_laws (configWrite_inRange hw) _)

theorem clampFilter_inRange (f : LineFunction) (p : Bool) (n : Nat) :
    filterInRange { function := f, activeHigh := p, filterTime := clampFilter n } = true := by
  have h : 10 ≤ clampFilter n ∧ clampFilter n ≤ 2550 ∧ clampFilter n % 10 = 0 := by
    unfold clampFilter
    omega
  simpa [filterInRange, and_assoc] using h

/-- The Tamper Monitor with an entry written and its line re-armed (R136). -/
def tableWritten (l : Line) (e : LineEntry) (d : Device) : Device :=
  d.setTamper
    { d.tamper with table := d.tamper.table.set l e, lines := d.tamper.lines.set l (rearmLine e d.tamper.lines[l]) }

theorem writeTable_eq (l : Line) (e : LineEntry) (d : Device) :
    writeTable l e d = auxChanged (auxPosition d) (tableWritten l e d) := rfl

theorem tableWritten_laws (l : Line) {e : LineEntry} (he : filterInRange e = true) (d : Device) :
    keepsLaws [] d (tableWritten l e d) := by
  refine setTamper_laws rfl ?_
  rintro ⟨htable, hrest⟩
  refine ⟨?_, hrest⟩
  rw [List.all_eq_true] at htable ⊢
  intro w hw
  rw [Device.setTamper_tamper, Vector.toList_set] at hw
  rcases List.mem_or_eq_of_mem_set hw with hw | rfl
  · exact htable w hw
  · exact he

/-- A function table entry in its range is written on mains (R136). -/
theorem writeTable_laws {d : Device} (hrun : running d = true) (l : Line) {e : LineEntry} (he : filterInRange e = true) :
    keepsLaws [] d (writeTable l e d) := by
  rw [writeTable_eq]
  exact (tableWritten_laws l he d).step (auxChanged_laws (d := tableWritten l e d) hrun _)

theorem table_laws (p : List Byte) : HandlerLaws [] (tableHandler p) := by
  intro d hrun
  unfold tableHandler
  split
  case h_2 => exact .refl _ _
  split
  case h_2 => exact .refl _ _
  split
  · exact writeTable_laws hrun _ (clampFilter_inRange _ _ _)
  · exact .refl _ _

theorem retry_laws : HandlerLaws [.drive] retryHandler := by
  intro d hrun
  have hmended : keepsLaws [] d (d.setRelay { d.relay with fault := none }) :=
    (setRelay_laws (d := d) (x := { d.relay with fault := none }) rfl).mend id |>.mend id
  unfold retryHandler
  dsimp only
  split
  · exact .refl _ _
  · exact .refl _ _
  · exact hmended.mono.step (startAttempt_laws (d := d.setRelay { d.relay with fault := none }) hrun _ _)
  · exact hmended.mono

/-- A test begins with the window OPEN, on mains, in IN_SERVICE (R16). -/
theorem beginTest_laws {d : Device} (hrun : running d = true) (hpart : d.power.part = .inService)
    (hopen : 0 < d.codes.windowMinutes) : keepsLaws [] d (beginTest d) := by
  refine ((setIntake_keeps d _).laws (L := [.test, .tamper])).mend ?_ |>.mend id
  exact fun bound h => ⟨h.1, fun _ => ⟨hrun, hpart, hopen, Nat.zero_le _⟩⟩

theorem testStart_laws {d : Device} (hrun : running d = true) (hopen : 0 < d.codes.windowMinutes) :
    keepsLaws [] d (testStartHandler d).1 := by
  have hk := endTest_keeps .endRequest d
  unfold testStartHandler
  split
  case h_1 hpart =>
    exact (endTest_laws _ d).step (beginTest_laws (hk.running.trans hrun) (hk.power ▸ hpart) (hk.codes ▸ hopen))
  · exact .refl _ _
  · exact .refl _ _

theorem testEnd_laws : HandlerLaws [] testEndHandler := fun d _ => endTest_laws _ d

end Sys2Proof.Machine
end

section
/-! PROOFS. Changes of the part state and of the power: commissioning, RESTORE_ACCOUNT, mains loss and return, RESET,
INITIALIZING, and the loss and return of all supply; and the laws they keep. -/

namespace Sys2Proof.Machine

/-! ### Changes of the power block -/

theorem setPower_keeps (d : Device) (x : Power) : keepsBut [.power] d (d.setPower x) := by
  intro b hb; cases b <;> simp_all [Block.same]

/-- The laws that look at the part state alone, where it stands. -/
theorem setPower_part_laws {d : Device} {x : Power} (hpart : x.part = d.power.part) :
    keepsLaws [.relay, .test, .link, .store] d (d.setPower x) := by
  refine (((setPower_keeps d x).laws (L := [.used, .spent, .reasons, .relay, .test, .link, .store])).mend ?_).mend ?_ |>.mend ?_
  · simp only [Law.kept, UsedSound, usedIssues, Device.setPower_power, hpart]; exact id
  · simp only [Law.kept, UsedSound, usedIssues, issueSpent, Device.setPower_power, hpart]; exact fun h => ⟨h, fun _ => id⟩
  · simp only [Law.kept, ReasonsBut, creditReasonOf, accountReasonOf, Device.setPower_power, hpart]; exact fun _ => id

/-- A change of the power while the ports stay stopped or running as they are. -/
theorem setPower_running_laws {d : Device} {x : Power} (hpart : x.part = d.power.part)
    (hrun : running (d.setPower x) = running d) : keepsLaws [.relay] d (d.setPower x) := by
  refine (((setPower_part_laws hpart).mono (L := [.test, .link, .store, .relay])).mend ?_).mend ?_ |>.mend ?_
  · simp only [Law.kept, TestUpTo, hrun, Device.setPower_power, hpart]; exact fun _ => id
  · simp only [Law.kept, LinkFrom, hrun]; exact fun _ _ => id
  · simp only [Law.kept, StoreSound, hrun, Device.setPower_power, hpart]; exact fun h => ⟨h, fun _ => id⟩

/-- A change of the power of a part whose ports stand still: no test runs there and no write is in flight. -/
theorem setPower_stopped_laws {d : Device} {x : Power} (hpart : x.part = d.power.part) (hoff : running d = false) :
    keepsLaws [.relay] d (d.setPower x) := by
  refine (((setPower_part_laws hpart).mono (L := [.test, .link, .store, .relay])).mend ?_).mend ?_ |>.mend ?_
  · rintro bound ⟨hwindow, hactive⟩
    refine ⟨hwindow, fun h => ?_⟩
    rw [(hactive h).1] at hoff
    cases hoff
  · rintro bound _ ⟨h1, h2, h3, h4, h5, h6⟩
    exact ⟨h1, h2, h3, h4, h5, fun _ => h6 hoff⟩
  · rintro ⟨hwritten, hunwritten, hflight⟩
    simp only [StoreSound, Device.setPower_power, hpart]
    refine ⟨⟨hwritten, hunwritten, fun h => ?_⟩, fun _ => id⟩
    rw [(hflight h).1] at hoff
    cases hoff

/-- A change of the part state between two outside INITIALIZING: the ports run on or stand still. -/
theorem setPart_laws {d : Device} {p : PartState} (hd : d.power.part ≠ .initializing) (hp : p ≠ .initializing) :
    keepsLaws [.used, .spent, .test, .reasons, .store] d (d.setPower { d.power with part := p }) := by
  have hrun : running (d.setPower { d.power with part := p }) = running d := by
    simp only [running, Device.setPower_power, bne_iff_ne.mpr hd, bne_iff_ne.mpr hp]
  refine ((setPower_keeps d { d.power with part := p }).laws 
    (L := [.link, .relay, .used, .spent, .test, .reasons, .store])).mend ?_ |>.mend ?_
  · simp only [Law.kept, LinkFrom, hrun]; exact fun _ _ => id
  · rintro ⟨⟨hlive, htiming⟩, hheld, hallowed, hidle⟩
    refine ⟨⟨fun _ => hlive hd, ?_⟩, ?_, fun h => hallowed (hrun ▸ h), fun h => hidle (hrun ▸ h)⟩
    · simp only [Device.setPower_power, hp, false_and, iff_false]
      simpa [hd] using htiming
    · simpa [hp, hd] using hheld

/-! ### The reasons handed together (R40) -/

theorem handAccountReasons_reasons (d : Device) :
    (handAccountReasons d).relay.reasons
      = { d.relay.reasons with credit := creditReasonOf d, account := accountReasonOf d } := by
  unfold handAccountReasons
  dsimp only
  split
  · exact setReasons_reasons _ _
  · exact setReasons_reasons _ _

theorem handAccountReasons_laws (d : Device) : keepsLaws [.reasons] d (handAccountReasons d) := by
  have hhanded : keepsLaws [.reasons] d
      (setReasons { d.relay.reasons with credit := creditReasonOf d, account := accountReasonOf d } d) :=
    keepsLaws.mend (keepsLaws.mono (setReasons_laws _ d)) (load_kept_setReasons rfl)
  unfold handAccountReasons
  exact .ite (fun _ => hhanded) fun _ => hhanded.step (raiseNotice_laws _ _)

/-- CREDIT and ACCOUNT are current once handed, and TAMPER stands. -/
theorem handAccountReasons_current {d : Device}
    (htamper : d.power.part ≠ .initializing → d.relay.reasons.tamper = tamperReasonOf d) (late : Prop) :
    ReasonsBut late (handAccountReasons d) := by
  have hk := handAccountReasons_keeps d
  intro hpart
  rw [creditReasonOf_congr hk.power hk.account hk.settings hk.clock, accountReasonOf_congr hk.power,
    tamperReasonOf_congr hk.tamper, handAccountReasons_reasons]
  exact ⟨.inl rfl, rfl, htamper (hk.power ▸ hpart)⟩

/-! ### RESTORE_ACCOUNT (R43) -/

/-- The part before the reasons of a restored account are handed on (R43, steps 2 to 5). -/
def restoredPart (r : Restored) (d : Device) : Device :=
  (((d.setAccount
    { d.account with balance := r.balance, debt := r.debt, recoveryPercent := r.percent, emergency := 0 }).setResidue
      0).setCodes { d.codes with floor := r.floor }).setPower { d.power with part := .inService }

theorem restoreAccount_eq (r : Restored) (d : Device) :
    restoreAccount r d
      = handAccountReasons (recomputeCreditState (addRecord (.accountRestored r.balance r.debt) (restoredPart r d))) := rfl

theorem restoredPart_keeps (r : Restored) (d : Device) :
    keepsBut [.account, .residue, .codes, .power] d (restoredPart r d) :=
  keepsBut_comp (keepsBut_comp (n := [.account, .residue, .codes, .power])
    (keepsBut_comp (n := [.account, .residue, .codes, .power]) (setAccount_keeps d _) (setResidue_keeps _ _))
    (setCodes_keeps _ _)) (setPower_keeps _ _)

/-- A restored account, its part in service and its credit state by the new balance. -/
theorem restoreAccount_frame (r : Restored) (d : Device) :
    keepsBut [.account, .residue, .codes, .power, .relay, .log, .host] d (restoreAccount r d)
      ∧ (restoreAccount r d).account
        = { d.account with
            balance := r.balance, debt := r.debt, recoveryPercent := r.percent, emergency := 0,
            creditState := creditStateOf r.balance d.settings.lowLevel }
      ∧ (restoreAccount r d).residue = 0 ∧ (restoreAccount r d).codes = { d.codes with floor := r.floor }
      ∧ (restoreAccount r d).power = { d.power with part := .inService }
      ∧ (restoreAccount r d).relay.reasons
        = { d.relay.reasons with
            credit := creditReasonOf (restoreAccount r d), account := accountReasonOf (restoreAccount r d) } := by
  have hrecorded := addRecord_keeps (.accountRestored r.balance r.debt) (restoredPart r d)
  have hstate := recomputeCreditState_keeps (addRecord (.accountRestored r.balance r.debt) (restoredPart r d))
  have hhanded := handAccountReasons_keeps
    (recomputeCreditState (addRecord (.accountRestored r.balance r.debt) (restoredPart r d)))
  have hall : keepsBut [.account, .relay, .log, .host] (restoredPart r d) (restoreAccount r d) :=
    keepsBut_comp (keepsBut_comp (n := [.account, .log, .host]) hrecorded hstate) hhanded
  refine ⟨keepsBut_comp (restoredPart_keeps r d) hall, ?_, hall.residue, hall.codes, hall.power, ?_⟩
  · rw [restoreAccount_eq, hhanded.account, recomputeCreditState_account, hrecorded.account, hrecorded.settings]
    rfl
  · rw [restoreAccount_eq, creditReasonOf_congr hhanded.power hhanded.account hhanded.settings hhanded.clock,
      accountReasonOf_congr hhanded.power, handAccountReasons_reasons, hstate.relay, hrecorded.relay]
    rfl

/-- The values restored are in their ranges (R43, step 1). -/
def RestoredInRange (r : Restored) : Prop :=
  -99999999 ≤ r.balance ∧ r.balance ≤ 99999999 ∧ r.debt ≤ 99999999 ∧ r.percent ≤ 100 ∧ r.floor ≤ 1000000

theorem restoredOf_inRange {p : List Byte} {r : Restored} (h : restoredOf p = some r) : RestoredInRange r := by
  unfold restoredOf at h
  split at h
  · obtain rfl := Option.some.inj h
    simp only [RestoredInRange, clampBalance, Config.moneyTop, Config.floorTop]
    omega
  · cases h

/-- The reasons that a hand-off of CREDIT and ACCOUNT leaves to the Tamper Monitor. -/
theorem reasons_kept_handed {d f : Device} (hpart : d.power.part ≠ .initializing) (hrelay : f.relay = d.relay)
    (htamper : f.tamper = d.tamper) : Law.reasons.kept d (handAccountReasons f) := by
  intro late hd
  refine handAccountReasons_current (fun _ => ?_) late
  rw [hrelay, tamperReasonOf_congr htamper]
  exact (hd hpart).2.2

/-- In ACCOUNT_LOST the account is restored; the issue floor carried replaces the one that stood (R43, R84). -/
theorem restoreAccount_laws {r : Restored} (hr : RestoredInRange r) {d : Device} (hlost : d.power.part = .accountLost) :
    keepsLaws [.spent] d (restoreAccount r d) := by
  obtain ⟨hframe, haccount, hresidue, hcodes, hpower, _⟩ := restoreAccount_frame r d
  obtain ⟨hlow, hhigh, hdebt, hpercent, hfloor⟩ := hr
  have hset : keepsLaws [.account, .used, .test, .reasons, .store, .queue, .spent] d (restoredPart r d) := by
    have hmoney : keepsLaws [.account, .reasons] d ((d.setAccount { d.account with
        balance := r.balance, debt := r.debt, recoveryPercent := r.percent, emergency := 0 }).setResidue 0) :=
      (setAccount_keeps d _).laws.step ((setResidue_keeps _ _).laws (L := [.account]))
    exact (hmoney.mono (L := [.account, .used, .test, .reasons, .store, .queue, .spent])).step
      ((setCodes_keeps _ _).laws (L := [.used, .test, .queue, .spent]))
      |>.step (setPart_laws (d := (((d.setAccount { d.account with
        balance := r.balance, debt := r.debt, recoveryPercent := r.percent, emergency := 0 }).setResidue 0).setCodes
          { d.codes with floor := r.floor })) (by simp [hlost]) (by decide))
  have hrecorded := addRecord_keeps (.accountRestored r.balance r.debt) (restoredPart r d)
  have hstate := recomputeCreditState_keeps (addRecord (.accountRestored r.balance r.debt) (restoredPart r d))
  have hpart := restoredPart_keeps r d
  refine (((((((hset.step (addRecord_laws (.accountRestored r.balance r.debt) _)).step (recomputeCreditState_laws _)).step
    (handAccountReasons_laws _)).mend ?account).mend ?used).mend ?test).mend ?reasons).mend ?store |>.mend ?queue
  case account =>
    intro h
    have hsettings := h.settings
    obtain ⟨_, _, _, _, _, h6, h7, _⟩ := h
    change AccountSound (restoreAccount r d)
    unfold AccountSound
    rw [haccount, hresidue, hframe.settings]
    exact ⟨hlow, hhigh, hdebt, Nat.zero_le _, hpercent, h6, h7, rfl, by decide, hsettings⟩
  case used =>
    rintro ⟨hlen, hasc, hrange, _, hempty⟩
    obtain ⟨hnone, _⟩ := hempty hlost
    change UsedSound (restoreAccount r d)
    simp only [UsedSound, usedIssues, hcodes, hpower, hnone]
    simp [hfloor]
  case test =>
    rintro bound ⟨hwindow, hactive⟩
    change TestUpTo bound (restoreAccount r d)
    simp only [TestUpTo, hcodes, hframe.intake]
    refine ⟨hwindow, fun h => ?_⟩
    obtain ⟨_, hservice, _⟩ := hactive h
    rw [hlost] at hservice
    cases hservice
  case reasons =>
    exact reasons_kept_handed (by simp [hlost]) (hstate.relay.trans (hrecorded.relay.trans hpart.relay))
      (hstate.tamper.trans (hrecorded.tamper.trans hpart.tamper))
  case store =>
    rintro ⟨hwritten, _, hflight⟩
    change StoreSound (restoreAccount r d) ∧ ∀ o, d.oneTime = some o → (restoreAccount r d).oneTime = some o
    simp only [StoreSound, hframe.oneTime, hframe.service, hpower]
    refine ⟨⟨fun _ => hwritten (.inr hlost), by simp, fun h => ?_⟩, fun _ => id⟩
    obtain ⟨_, hunc⟩ := hflight h
    rw [hlost] at hunc
    cases hunc
  case queue =>
    change QueueSound d → QueueSound (restoreAccount r d)
    simp only [QueueSound, keypadCodes, hcodes]
    exact id

/-! ### Commissioning (R185) -/

/-- The part before the reasons of a commissioned account are handed on (R185, steps 1 to 3). -/
def commissionedPart (store : OneTime) (d : Device) : Device :=
  recomputeCreditState (((d.setOneTime (some store)).setPower { d.power with part := .inService }).setAccount
    (commissionedAccount d.account))

/-- The account in service with its list empty under floor 0, before CREDIT and ACCOUNT are handed on. -/
def commissionedList (store : OneTime) (d : Device) : Device :=
  (commissionedPart store d).setCodes { (commissionedPart store d).codes with used := [], floor := 0 }

/-- The response of a completed COMMISSION waits (R185). -/
def commissionReply (store : OneTime) (d : Device) : Device :=
  d.setService { d.service with
    commissioning := none, waiting := some { request := 0x4D, answer := accepted (digitBytes store.serial) } }

theorem completeCommission_eq (store : OneTime) (d : Device) :
    completeCommission store d = commissionReply store (handAccountReasons (commissionedList store d)) := rfl

theorem setOneTime_keeps (d : Device) (x : Option OneTime) : keepsBut [.oneTime] d (d.setOneTime x) := by
  intro b hb; cases b <;> simp_all [Block.same]

theorem commissionedPart_keeps (store : OneTime) (d : Device) :
    keepsBut [.oneTime, .power, .account, .log, .host] d (commissionedPart store d) :=
  keepsBut_comp (keepsBut_comp (n := [.oneTime, .power, .account])
    (keepsBut_comp (n := [.oneTime, .power, .account]) (setOneTime_keeps d _) (setPower_keeps _ _)) (setAccount_keeps _ _))
    (recomputeCreditState_keeps _)

/-- A commissioned meter: in service, its account cleared, its list empty under floor 0, its store written. -/
theorem completeCommission_frame (store : OneTime) (d : Device) :
    keepsBut [.oneTime, .power, .account, .codes, .relay, .service, .log, .host] d (completeCommission store d)
      ∧ (completeCommission store d).oneTime = some store
      ∧ (completeCommission store d).power = { d.power with part := .inService }
      ∧ (completeCommission store d).account
        = { commissionedAccount d.account with creditState := creditStateOf 0 d.settings.lowLevel }
      ∧ (completeCommission store d).codes = { d.codes with used := [], floor := 0 }
      ∧ (completeCommission store d).service
        = { d.service with
            commissioning := none, waiting := some { request := 0x4D, answer := accepted (digitBytes store.serial) } }
      ∧ (completeCommission store d).relay.reasons
        = { d.relay.reasons with
            credit := creditReasonOf (completeCommission store d),
            account := accountReasonOf (completeCommission store d) } := by
  have hpart := commissionedPart_keeps store d
  have hstate := recomputeCreditState_keeps (((d.setOneTime (some store)).setPower
    { d.power with part := .inService }).setAccount (commissionedAccount d.account))
  have hlist : keepsBut [.codes] (commissionedPart store d) (commissionedList store d) := setCodes_keeps _ _
  have hhanded := handAccountReasons_keeps (commissionedList store d)
  have hreplied : keepsBut [.service] _ (completeCommission store d) :=
    setService_keeps (handAccountReasons (commissionedList store d)) _
  have hservice := hhanded.service.trans (hlist.service.trans hpart.service)
  have hcodes := hpart.codes
  refine ⟨?_, ?_, ?_, ?_, ?_, ?_, ?_⟩
  · exact keepsBut_comp (keepsBut_comp (n := [.oneTime, .power, .account, .codes, .relay, .log, .host])
      (keepsBut_comp (n := [.oneTime, .power, .account, .codes, .log, .host]) hpart hlist) hhanded) hreplied
  · exact hreplied.oneTime.trans (hhanded.oneTime.trans (hlist.oneTime.trans hstate.oneTime))
  · exact hreplied.power.trans (hhanded.power.trans (hlist.power.trans hstate.power))
  · rw [hreplied.account, hhanded.account, hlist.account, commissionedPart, recomputeCreditState_account]
    rfl
  · rw [hreplied.codes, hhanded.codes, commissionedList, Device.setCodes_codes, hcodes]
  · rw [completeCommission_eq, commissionReply, Device.setService_service, hservice]
  · rw [creditReasonOf_congr hreplied.power hreplied.account hreplied.settings hreplied.clock,
      accountReasonOf_congr hreplied.power,
      creditReasonOf_congr hhanded.power hhanded.account hhanded.settings hhanded.clock,
      accountReasonOf_congr hhanded.power, hreplied.relay, handAccountReasons_reasons, hlist.relay, hpart.relay]

/-- From UNCOMMISSIONED a completed write puts the meter into service; the floor starts anew (R84, R185). -/
theorem completeCommission_laws {store : OneTime} {d : Device} (hunc : d.power.part = .uncommissioned) :
    keepsLaws [.spent, .unwritten] d (completeCommission store d) := by
  obtain ⟨hframe, hone, hpower, haccount, hcodes, hservice, _⟩ := completeCommission_frame store d
  have hpart := commissionedPart_keeps store d
  have hset : keepsLaws [.account, .used, .test, .reasons, .store, .queue, .spent, .unwritten] d
      (commissionedList store d) := by
    have hserved : keepsLaws [.used, .spent, .test, .reasons, .store, .unwritten] d
        ((d.setOneTime (some store)).setPower { d.power with part := .inService }) :=
      ((setOneTime_keeps d (some store)).laws (L := [.used, .spent, .test, .reasons, .store, .unwritten])).step
        (setPart_laws (d := d.setOneTime (some store)) (by simp [hunc]) (by decide))
    exact ((hserved.mono (L := [.account, .used, .test, .reasons, .store, .queue, .spent, .unwritten])).step
      ((setAccount_keeps _ _).laws (L := [.account, .reasons]))).step (recomputeCreditState_laws _)
      |>.step ((setCodes_keeps _ _).laws (L := [.used, .spent, .test, .queue]))
  have hreplied : keepsLaws [.store] (handAccountReasons (commissionedList store d)) (completeCommission store d) :=
    (setService_keeps (handAccountReasons (commissionedList store d)) _).laws
  refine (((((((hset.step (handAccountReasons_laws _)).step hreplied).mend ?account).mend ?used).mend ?test).mend
    ?reasons).mend ?store).mend ?queue
  case account =>
    intro h
    have hsettings := h.settings
    obtain ⟨_, _, _, _, _, _, _, _, h9, _⟩ := h
    unfold AccountSound
    rw [haccount, hframe.residue, hframe.settings]
    exact ⟨by simp [commissionedAccount], by simp [commissionedAccount], by simp [commissionedAccount],
      by simp [commissionedAccount], by simp [commissionedAccount], by simp [commissionedAccount],
      by simp [commissionedAccount], rfl, h9, hsettings⟩
  case used =>
    intro _
    simp [UsedSound, usedIssues, hcodes, hpower]
  case test =>
    rintro bound ⟨hwindow, hactive⟩
    simp only [TestUpTo, hcodes, hframe.intake]
    refine ⟨hwindow, fun h => ?_⟩
    obtain ⟨_, hin, _⟩ := hactive h
    rw [hunc] at hin
    cases hin
  case reasons =>
    have hhanded : Law.reasons.kept d (handAccountReasons (commissionedList store d)) :=
      reasons_kept_handed (by simp [hunc]) hpart.relay hpart.tamper
    have hlast : Law.reasons.kept (handAccountReasons (commissionedList store d)) (completeCommission store d) :=
      hreplied .reasons (by simp)
    exact Law.kept_trans hhanded hlast
  case store =>
    rintro ⟨_, hunwritten, _⟩
    have hnone := hunwritten hunc
    simp only [StoreSound, hone, hpower, hservice, hnone]
    simp
  case queue =>
    simp only [Law.kept, QueueSound, keypadCodes, hcodes]
    exact id

/-- COMMISSION begins a write only in UNCOMMISSIONED (R184). -/
theorem commission_laws (p : List Byte) {d : Device} (hrun : running d = true) : keepsLaws [] d (commissionHandler p d).1 := by
  unfold commissionHandler
  split
  · exact .refl _ _
  split
  · exact .refl _ _
  case isFalse hpart =>
    split
    · exact .refl _ _
    · refine ((setService_keeps d _).laws (L := [.store])).mend ?_
      rintro ⟨hwritten, hunwritten, _⟩
      exact ⟨⟨hwritten, hunwritten, fun _ => ⟨hrun, not_not.mp hpart⟩⟩, fun _ => id⟩

/-! ### Mains loss (R177) -/

theorem clearDemandedLines_laws (d : Device) : keepsLaws [] d (stopMainsLines (zeroDemand d)) :=
  (zeroDemand_laws d).step (M := []) (setTamper_laws rfl id)

theorem stopHost_laws (d : Device) : keepsLaws [.host] d (stopHost d) := setHost_laws rfl

/-- The service port stops, and a write in flight with it (R179, R185). -/
theorem stopService_laws (d : Device) : keepsLaws [] d (stopService d) := by
  refine ((setService_keeps d _).laws (L := [.store])).mend ?_
  rintro ⟨h1, h2, _⟩
  exact ⟨⟨h1, h2, by simp⟩, fun _ => id⟩

/-- An operation in flight is replaced by the settled state of the last confirmed position (R126). -/
theorem abandonOperation_relay (d : Device) :
    (abandonOperation d).relay
      = if inOperation d.relay.state then
          { d.relay with state := settledState d.relay.lastConfirmed d.relay.reasons }
        else d.relay := by
  unfold abandonOperation
  cases hst : d.relay.state
  case opening | closing => dsimp only [inOperation]; split <;> rfl
  all_goals rfl

theorem settledState_idle (p : Position) (r : Reasons) :
    inOperation (settledState p r) = false ∧ settledState p r ≠ .unheld := by
  cases p <;> simp only [settledState]
  · split <;> simp [inOperation]
  · simp [inOperation]

theorem closeDrive_of_idle {d : Device} (h : inOperation d.relay.state = false) : closeDrive d = false := by
  unfold closeDrive
  split
  case h_1 hst => rw [hst] at h; cases h
  case h_2 => rfl

theorem abandonOperation_laws (d : Device) : keepsLaws [.relay] d (abandonOperation d) := by
  have hset : keepsLaws [.relay] d
      (d.setRelay { d.relay with state := settledState d.relay.lastConfirmed d.relay.reasons }) := by
    have hmoved : keepsLaws [.drive, .relay] d
        (d.setRelay { d.relay with state := settledState d.relay.lastConfirmed d.relay.reasons }) :=
      keepsLaws.mono (M := [.relay, .drive]) (setRelay_laws rfl)
    refine hmoved.mend fun h => ?_
    rw [closeDrive_of_idle (settledState_idle d.relay.lastConfirmed d.relay.reasons).1] at h
    cases h
  unfold abandonOperation
  dsimp only
  split
  · exact .ite (fun _ => hset.step (zeroOpenEnergy_laws _)) fun _ => hset
  · exact .ite (fun _ => hset.step (zeroOpenEnergy_laws _)) fun _ => hset
  · exact .refl _ _

end Sys2Proof.Machine
end

section
/-! PROOFS. The laws that mains loss and return, RESET, INITIALIZING and the loss and return of all supply keep. -/

namespace Sys2Proof.Machine

/-! ### Mains loss (R177) -/

theorem stopLink_keeps (d : Device) : keepsBut [.link] d (stopLink d) := setLink_keeps d _
theorem startLink_keeps (d : Device) : keepsBut [.link] d (startLink d) := setLink_keeps d _
theorem stopService_keeps (d : Device) : keepsBut [.service] d (stopService d) := setService_keeps d _
theorem huntService_keeps (d : Device) : keepsBut [.service] d (huntService d) := setService_keeps d _
theorem startHost_keeps (strap : Level) (d : Device) : keepsBut [.host] d (startHost strap d) := setHost_keeps d _
theorem startIntake_keeps (d : Device) : keepsBut [.intake] d (startIntake d) := setIntake_keeps d _
theorem setSupply_keeps (x : Supply) (d : Device) : keepsBut [.power] d (setSupply x d) := setPower_keeps d _
theorem setPart_keeps (x : PartState) (d : Device) : keepsBut [.power] d (setPart x d) := setPower_keeps d _
theorem setInitTiming_keeps (x : Bool) (d : Device) : keepsBut [.power] d (setInitTiming x d) := setPower_keeps d _

/-- The part with its mains lost: the POWER_FAIL record written, the test ended, the codes aborted, the entry cleared. -/
def lossCleared (d : Device) : Device :=
  let aborted := abortCodes (endTest .mainsLoss (addRecord .powerFail (setSupply .battery d)))
  aborted.setKeypad (clearEntry aborted.keypad)

theorem loseMains_eq (d : Device) :
    loseMains d
      = stopMainsLines (zeroDemand (abandonOperation (stopService (stopHost (stopLink (lossCleared d)))))) := rfl

theorem lossCleared_keeps (d : Device) :
    keepsBut [.power, .intake, .codes, .keypad, .service, .log, .host] d (lossCleared d) :=
  keepsBut_comp (keepsBut_comp (n := [.power, .intake, .codes, .keypad, .service, .log, .host])
    (keepsBut_comp (n := [.power, .intake, .log, .host])
      (keepsBut_comp (n := [.power, .log, .host]) (setSupply_keeps _ d) (addRecord_keeps _ _)) (endTest_keeps _ _))
    (abortCodes_keeps _)) (setKeypad_keeps _ _)

theorem abandonOperation_testActive (d : Device) : (abandonOperation d).intake.testActive = d.intake.testActive := by
  unfold abandonOperation
  dsimp only
  split
  · split <;> rfl
  · split <;> rfl
  · rfl

/-- What a mains loss leaves of the power, the test, the queue, the keypad, the two receivers and the relay. -/
theorem loseMains_frame (d : Device) :
    keepsBut [.power, .intake, .codes, .keypad, .link, .relay, .load, .tamper, .service, .log, .host] d (loseMains d)
      ∧ (loseMains d).power = { d.power with supply := .battery }
      ∧ (loseMains d).intake.testActive = false
      ∧ (loseMains d).codes = { d.codes with inCheck := none, queue := [] }
      ∧ (loseMains d).link.sending = none ∧ (loseMains d).link.assembly = .hunting
      ∧ (loseMains d).service
        = { (lossCleared d).service with assembly := .hunting, sending := none, waiting := none, commissioning := none }
      ∧ (loseMains d).relay
        = (if inOperation d.relay.state then
            { d.relay with state := settledState d.relay.lastConfirmed d.relay.reasons }
          else d.relay) := by
  have hcleared := lossCleared_keeps d
  have hstopped : keepsBut [.link, .host, .service] (lossCleared d) (stopService (stopHost (stopLink (lossCleared d)))) :=
    keepsBut_comp (keepsBut_comp (n := [.link, .host]) (stopLink_keeps _) (stopHost_keeps _)) (stopService_keeps _)
  have habandoned := abandonOperation_keeps (stopService (stopHost (stopLink (lossCleared d))))
  have hended := keepsBut_comp (n := [.load, .tamper])
    (zeroDemand_keeps (abandonOperation (stopService (stopHost (stopLink (lossCleared d))))))
    (stopMainsLines_keeps _)
  have hover : (lossCleared d).intake.testActive = false := by
    have hovered := endTest_over .mainsLoss (addRecord .powerFail (setSupply .battery d))
    have haborted := (abortCodes_keeps (endTest .mainsLoss (addRecord .powerFail (setSupply .battery d)))).intake
    exact (congrArg Intake.testActive haborted).trans hovered
  have hcodes : (lossCleared d).codes = { d.codes with inCheck := none, queue := [] } := by
    have haborted := abortCodes_codes (endTest .mainsLoss (addRecord .powerFail (setSupply .battery d)))
    rw [(endTest_keeps _ _).codes, (addRecord_keeps _ _).codes] at haborted
    exact haborted
  have hpower : (lossCleared d).power = { d.power with supply := .battery } :=
    (abortCodes_keeps _).power.trans ((endTest_keeps _ _).power.trans (addRecord_keeps _ _).power)
  have hafter := keepsBut_comp (n := [.link, .host, .service, .relay, .intake, .load, .tamper]) hstopped
    (keepsBut_comp (n := [.relay, .intake, .load, .tamper]) habandoned hended)
  rw [loseMains_eq]
  refine ⟨keepsBut_comp hcleared hafter, hafter.power.trans hpower, ?_, hafter.codes.trans hcodes, ?_, ?_, ?_, ?_⟩
  · rw [hended.intake, abandonOperation_testActive, hstopped.intake, hover]
  · have h := (link_fields_of_linkBody (hended.linkBody.trans habandoned.linkBody)).2.2.2.2.2
    exact h
  · have h := (link_fields_of_linkBody (hended.linkBody.trans habandoned.linkBody)).2.2.2.2.1
    exact h
  · rw [hended.service, habandoned.service]
    rfl
  · rw [hended.relay, abandonOperation_relay, hstopped.relay, hcleared.relay]

theorem loseMains_laws {d : Device} (hrun : running d = true) : keepsLaws [.host] d (loseMains d) := by
  obtain ⟨hframe, hpower, htest, hcodes, hsending, hassembly, hservice, hrelay⟩ := loseMains_frame d
  have hoff : running (loseMains d) = false := by simp [running, hpower]
  have hset : keepsLaws [.relay, .test, .link, .store, .host] d (loseMains d) := by
    have hsupply : keepsLaws [.relay, .test, .link, .store, .host] d (setSupply .battery d) :=
      keepsLaws.mono (setPower_part_laws (d := d) (x := { d.power with supply := .battery }) rfl)
    rw [loseMains_eq]
    exact ((((((hsupply.step (addRecord_laws .powerFail _)).step (endTest_laws .mainsLoss _)).step (abortCodes_laws _)).step
      (clearEntry_laws _)).step (stopLink_laws _)).step (stopHost_laws _)).step (stopService_laws _)
      |>.step (abandonOperation_laws _) |>.step (clearDemandedLines_laws _)
  refine (((hset.mend ?relay).mend ?test).mend ?link).mend ?store
  case relay =>
    rintro ⟨⟨hlive, htiming⟩, hheld, _, _⟩
    have hpart : d.power.part ≠ .initializing := by
      intro h; simp [running, h] at hrun
    have hunheld : (loseMains d).relay.state ≠ .unheld ∧ inOperation (loseMains d).relay.state = false := by
      rw [hrelay]
      split
      case isTrue => exact (settledState_idle _ _).symm
      case isFalse hidle => exact ⟨fun h => hpart (hheld.mpr h), by simpa using hidle⟩
    refine ⟨⟨fun _ => ⟨by simp [alive, hpower], ?_⟩, ?_⟩, ?_, fun h => absurd (hoff.symm.trans h) (by decide),
      fun _ => hunheld.2⟩
    · rw [hpower]; exact (hlive hpart).2
    · rw [hpower]
      simpa [hpart] using htiming
    · rw [hpower]
      simp [hpart, hunheld.1]
  case test => exact test_kept_of_inactive htest fun h => by rw [hcodes]; exact h
  case link =>
    intro bound hbound h
    have hlink : linkBody (loseMains d).link = linkBody (stopLink (lossCleared d)).link := by
      rw [loseMains_eq]
      exact (keepsBut_comp (n := [.host, .service, .relay, .intake, .load, .tamper])
        (keepsBut_comp (n := [.host, .service]) (stopHost_keeps (stopLink (lossCleared d))) (stopService_keeps _))
        (keepsBut_comp (n := [.relay, .intake, .load, .tamper]) (abandonOperation_keeps _)
          (keepsBut_comp (n := [.load, .tamper]) (zeroDemand_keeps _) (stopMainsLines_keeps _)))).linkBody
    obtain ⟨h1, h2, h3, h4, _, _⟩ := link_fields_of_linkBody hlink
    obtain ⟨k1, k2, k3, k4, _, _⟩ := link_fields_of_linkBody (lossCleared_keeps d).linkBody
    obtain ⟨l1, l2, l3, l4, _, _⟩ := h
    refine ⟨?_, ?_, ?_, ?_, ?_, fun _ => ⟨hsending, hassembly⟩⟩
    · rw [h1]; exact k1 ▸ l1
    · rw [h2]; exact k2 ▸ l2
    · rw [h3]; exact k3 ▸ l3
    · rw [h4]; exact k4 ▸ l4
    · rw [hassembly]; rfl
  case store =>
    rintro ⟨h1, h2, _⟩
    simp only [StoreSound, hframe.oneTime, hpower, hservice]
    exact ⟨⟨h1, h2, by simp⟩, fun _ => id⟩

/-! ### Mains return (R178) -/

theorem rearmLines_laws (which : LineFunction → Bool) (d : Device) : keepsLaws [] d (rearmLines which d) :=
  setTamper_laws rfl id

theorem startPorts_laws (strap : Level) (d : Device) : keepsLaws [.host] d (startPorts strap d) := by
  have hintake : keepsLaws [] d (startIntake d) :=
    setIntake_laws (d := d) (x := { d.intake with filters := Vector.replicate 3 .waiting }) rfl rfl TamperSound.openEnergy
      TamperSound.reverse
  have hhost : keepsLaws [.host] (startIntake d) (startHost strap (startIntake d)) := setHost_laws rfl
  exact ((hintake.mono.step hhost).step (huntService_laws _)).step (startLink_laws _)

theorem startPorts_keeps (strap : Level) (d : Device) : keepsBut [.intake, .host, .service, .link] d (startPorts strap d) :=
  keepsBut_comp (keepsBut_comp (n := [.intake, .host, .service])
    (keepsBut_comp (n := [.intake, .host]) (startIntake_keeps d) (startHost_keeps _ _)) (huntService_keeps _))
    (startLink_keeps _)

theorem resolveRelay_laws_aside (d : Device) : keepsLaws [.relay] d (resolveRelay d) := by
  unfold resolveRelay
  split
  · exact .ite (fun _ => settle_laws_aside _ d) fun _ => .refl _ _
  · exact settle_laws_aside _ d

/-- On mains the resolution leaves a state that is held and that the reasons allow (R127). -/
theorem resolveRelay_allowed {d : Device} (hrun : running d = true) :
    (resolveRelay d).relay.state ≠ .unheld
      ∧ stateAllowed (resolveRelay d).relay.state (resolveRelay d).relay.reasons = true := by
  have hsettled : ∀ p, (settle p d).relay.state ≠ .unheld
      ∧ stateAllowed (settle p d).relay.state (settle p d).relay.reasons = true := by
    intro p
    rw [settle_relay hrun]
    exact settledOn_allowed p d
  unfold resolveRelay
  split
  case h_1 target hst =>
    split
    · exact hsettled _
    · rw [hst]; exact ⟨by simp, rfl⟩
  case h_2 => exact hsettled _

/-- Processing while mains returns moves the power state to MAINS (R178). -/
theorem processReturn_frame (d : Device) :
    keepsBut [.power, .account, .clock, .intake, .relay, .tamper, .log, .host] d (processReturn d)
      ∧ (processReturn d).power = { d.power with supply := .mains } := by
  have hrecorded := addRecord_keeps .powerReturn d
  have hrearmed := keepsBut_comp (n := [.tamper, .log, .host]) hrecorded (rearmLines_keeps mainsFunction _)
  have hday := keepsBut_comp (n := [.account, .clock, .intake, .relay, .tamper, .log, .host]) hrearmed (dayProcessing_keeps _)
  refine ⟨keepsBut_comp hday (setSupply_keeps _ _), ?_⟩
  unfold processReturn setSupply
  rw [Device.setPower_power, hday.power]

theorem returnMains_laws {d : Device} {strap : Level} (hbattery : d.power.supply = .battery)
    (hpart : d.power.part ≠ .initializing) : keepsLaws [.host] d (returnMains strap d) := by
  obtain ⟨hframe, hpower⟩ := processReturn_frame d
  have hoff : running d = false := by simp [running, hbattery]
  have hrun : running (processReturn d) = true := by simp [running, hpower, hpart]
  have hday : keepsLaws [] d (dayProcessing (rearmLines mainsFunction (addRecord .powerReturn d))) :=
    ((addRecord_laws _ d).step (rearmLines_laws _ _)).step (dayProcessing_laws _)
  have hdayPower : (dayProcessing (rearmLines mainsFunction (addRecord .powerReturn d))).power = d.power :=
    (dayProcessing_keeps _).power.trans ((rearmLines_keeps _ _).power.trans (addRecord_keeps _ d).power)
  have hreturned : keepsLaws [.relay] d (processReturn d) :=
    hday.mono.step (setPower_stopped_laws rfl (by simp only [running, hdayPower]; exact hoff))
  have hresolved : keepsLaws [.relay, .host] d (returnMains strap d) :=
    ((hreturned.step (resolveRelay_laws_aside _)).mono (L := [.relay, .host])).step (startPorts_laws strap _)
  refine hresolved.mend ?_
  rintro ⟨⟨hlive, htiming⟩, _⟩
  have hlast := startPorts_keeps strap (resolveRelay (processReturn d))
  have hlastPower : (returnMains strap d).power = { d.power with supply := .mains } :=
    hlast.power.trans ((resolveRelay_keeps _).power.trans hpower)
  have hlastRun : running (returnMains strap d) = true := by simp [running, hlastPower, hpart]
  obtain ⟨hheld, hallowed⟩ := resolveRelay_allowed hrun
  have hrelay : (returnMains strap d).relay = (resolveRelay (processReturn d)).relay := hlast.relay
  refine ⟨⟨fun _ => ⟨by simp [alive, hlastPower], ?_⟩, ?_⟩, ?_, fun _ => hrelay ▸ hallowed,
    fun h => absurd (hlastRun.symm.trans h) (by decide)⟩
  · rw [hlastPower]; exact (hlive hpart).2
  · rw [hlastPower]; simpa [hpart] using htiming
  · rw [hlastPower, hrelay]; simp [hpart, hheld]

/-! ### RESET (R186) -/

/-- As INITIALIZING begins, every volatile item is at its start-up value, and no law but those of the power and of the
meter host port is broken. -/
theorem enterInitializing_laws (d : Device) : keepsLaws [.relay, .host, .notices] d (enterInitializing d) := by
  intro l hl
  have hoff : running (enterInitializing d) = false := by simp [running, enterInitializing, setInitTiming, setPart]
  cases l
  case relay | host | notices => exact absurd (by decide) hl
  case clock | account | tariffs => exact id
  case queue => exact fun h => ⟨Nat.zero_le _, Nat.zero_le _, fun _ => rfl, Nat.zero_le _⟩
  case used => exact fun ⟨h1, h2, h3, h4, _⟩ => ⟨h1, h2, h3, h4, fun h => by cases h⟩
  case spent => exact fun ⟨h1, h2, h3, h4, _⟩ => ⟨⟨h1, h2, h3, h4, fun h => by cases h⟩, fun _ => id⟩
  case test => exact test_kept_of_inactive rfl id
  case keypad => exact fun ⟨_, _, _, _, h5, h6, _⟩ =>
    ⟨Nat.zero_le _, Nat.zero_le _, Nat.zero_le _, Nat.zero_le _, h5, h6, fun _ => rfl⟩
  case link => exact fun _ _ _ =>
    ⟨Nat.zero_le _, Nat.zero_le _, Nat.zero_le _, trivial, rfl, fun _ => ⟨rfl, rfl⟩⟩
  case reasons => exact fun _ _ h => absurd rfl h
  case load => exact zeroDemand_laws d .load (by simp)
  case tamper => exact id
  case log =>
    exact fun ⟨h1, h2, h3, h4, h5, h6, _, h8⟩ => ⟨h1, h2, h3, h4, h5, h6, fun _ h => (by cases h), h8⟩
  case store =>
    refine fun _ => ⟨⟨fun h => ?_, fun h => ?_, fun h => ?_⟩, fun _ => id⟩
    · rcases h with h | h <;> cases h
    · cases h
    · cases h
  case unwritten => exact id
  case latches => exact fun _ => id
  case drive => exact fun h => by cases h

theorem enterInitializing_power (d : Device) :
    (enterInitializing d).power = { d.power with part := .initializing, initTiming := false } := rfl

/-- A part in INITIALIZING, with no relay state held and its initialization time stopped, RESET asserted or mains low. -/
theorem relaySound_initializing {e : Device} (hpart : e.power.part = .initializing) (hstate : e.relay.state = .unheld)
    (htiming : e.power.initTiming = true ↔ e.power.resetAsserted = false ∧ e.power.supply = .mains) :
    PowerSound e ∧ RelaySound e := by
  have hoff : running e = false := by simp [running, hpart]
  refine ⟨⟨fun h => absurd hpart h, by simpa [hpart] using htiming⟩, by simp [hpart, hstate],
    fun h => absurd (hoff.symm.trans h) (by decide), fun _ => by rw [hstate]; rfl⟩

theorem resetAsserted_laws (x : Bool) (d : Device) :
    keepsLaws [.relay] d (d.setPower { d.power with resetAsserted := x }) := setPower_running_laws rfl rfl

theorem assertReset_laws (d : Device) : keepsLaws [.host, .notices] d (assertReset d) := by
  have hasserted : keepsLaws [.relay, .host, .notices] d (d.setPower { d.power with resetAsserted := true }) :=
    (resetAsserted_laws true d).mono
  have hentered : ∀ e, e.power.resetAsserted = true → Law.relay.kept d (enterInitializing e) := fun e he _ =>
    relaySound_initializing rfl rfl (by simp [enterInitializing_power, he])
  unfold assertReset
  dsimp only
  refine .ite (fun hdead => hasserted.mend ?_) fun _ => .ite (fun _ => ?_) fun _ => ?_
  · rintro ⟨⟨hlive, htiming⟩, hheld, _, _⟩
    have hnone : d.power.supply = .none := by simpa [alive] using hdead
    have hinit : d.power.part = .initializing := by
      by_contra h
      have := (hlive h).1
      simp [alive, hnone] at this
    refine relaySound_initializing hinit (hheld.mp hinit) ?_
    simpa [hnone] using htiming
  · exact (hasserted.step (enterInitializing_laws _)).mend (hentered _ rfl)
  · refine (((hasserted.step (endTest_laws .reset _)).step (abortCodes_laws _)).step (enterInitializing_laws _)).mend
      (hentered _ ?_)
    rw [(abortCodes_keeps _).power, (endTest_keeps _ _).power]
    rfl

theorem releaseReset_laws {d : Device} (hreset : d.power.resetAsserted = true) : keepsLaws [] d (releaseReset d) := by
  have hinit : PowerSound d → d.power.part = .initializing := by
    rintro ⟨hlive, _⟩
    by_contra h
    exact absurd (hreset.symm.trans (hlive h).2.1) (by decide)
  unfold releaseReset
  dsimp only
  refine .ite (fun hmains => ?_) fun hother => ?_
  · refine keepsLaws.mend (setPower_running_laws (d := d)
      (x := { d.power with resetAsserted := false, initTiming := true }) rfl rfl) ?_
    rintro ⟨_, hheld, _, _⟩
    exact relaySound_initializing hmains.1 (hheld.mp hmains.1) ⟨fun _ => ⟨rfl, hmains.2⟩, fun _ => rfl⟩
  · refine (resetAsserted_laws false d).mend ?_
    rintro ⟨hpower, hheld, _, _⟩
    have hpart := hinit hpower
    have hlow : d.power.supply ≠ .mains := fun h => hother ⟨hpart, h⟩
    obtain ⟨_, htiming⟩ := hpower
    refine relaySound_initializing hpart (hheld.mp hpart) ?_
    simpa [hreset, hlow] using htiming

theorem changeInitMains_laws {d : Device} {level : Level} (hpart : d.power.part = .initializing) :
    keepsLaws [] d (changeInitMains level d) := by
  have hoff : running d = false := by simp [running, hpart]
  have hset : ∀ x : Power, x.part = d.power.part →
      (x.initTiming = true ↔ x.resetAsserted = false ∧ x.supply = .mains) → keepsLaws [] d (d.setPower x) := by
    intro x hx htiming
    refine (setPower_stopped_laws hx hoff).mend ?_
    rintro ⟨_, hheld, _, _⟩
    exact relaySound_initializing (hx.trans hpart) (hheld.mp hpart) htiming
  cases level
  · exact hset { d.power with supply := .battery, initTiming := false } rfl (by simp)
  · exact hset { d.power with supply := .mains, initTiming := !d.power.resetAsserted } rfl (by simp)

/-! ### The loss and return of all supply (R186, R188) -/

theorem loseSupply_laws (d : Device) : keepsLaws [.host, .notices] d (loseSupply d) := by
  have hunsensed : keepsLaws [] (enterInitializing d)
      ((enterInitializing d).setTamper
        { (enterInitializing d).tamper with
          lines := (enterInitializing d).tamper.lines.map fun l => { l with timing := false } }) :=
    setTamper_laws rfl id
  have hset : keepsLaws [.relay, .host, .notices] d (loseSupply d) :=
    ((enterInitializing_laws d).step hunsensed).step (setPower_stopped_laws rfl (by simp [running, enterInitializing_power]))
  refine hset.mend fun _ => relaySound_initializing rfl rfl ?_
  simp [loseSupply, enterInitializing_power]

theorem gainSupply_laws {d : Device} {level : Level} {asserted : Bool} (hdead : alive d = false) :
    keepsLaws [] d (gainSupply level asserted d) := by
  have hnone : d.power.supply = .none := by simpa [alive] using hdead
  have hoff : running d = false := by simp [running, hnone]
  have hset : keepsLaws [.relay] d (gainSupply level asserted d) := by
    unfold gainSupply
    exact setPower_stopped_laws rfl hoff
  refine hset.mend ?_
  rintro ⟨⟨hlive, _⟩, hheld, _, _⟩
  have hinit : d.power.part = .initializing := by
    by_contra h
    exact absurd (hdead.symm.trans (hlive h).1) (by decide)
  refine relaySound_initializing hinit (hheld.mp hinit) ?_
  cases level <;> simp [gainSupply]

end Sys2Proof.Machine
end

section
/-! PROOFS. The end of INITIALIZING, stage by stage, and the laws it keeps (R187). -/

namespace Sys2Proof.Machine

/-! ### The retained check (R187, step 2) -/

theorem lossSources_entry (x : Source) (d : Device) (h : d.tamper.sources = lossSources) :
    (sourceEntry d x).latched = true ∧ (sourceEntry d x).record = none ∧ (sourceEntry d x).count = 0 := by
  simp only [sourceEntry, h]
  cases x <;> exact ⟨rfl, rfl, rfl⟩

/-- Retained loss sets every retained item within its law (Table 10-4). -/
theorem retainedLoss_laws {d : Device} (hpart : d.power.part = .initializing) : keepsLaws [] d (retainedLoss d) := by
  have hoff : running d = false := by simp [running, hpart]
  have hentry := fun x => lossSources_entry x (retainedLoss d) rfl
  intro l _
  cases l
  case clock => exact fun _ => ⟨Nat.zero_le _, Nat.zero_le _, by simp [retainedLoss, lossClock], fun _ h => (by cases h)⟩
  case account => exact fun _ => by simp [AccountSound, retainedLoss, lossAccount, lossSettings, creditStateOf, windowInRange]
  case tariffs => exact fun _ => ⟨by simp only [retainedLoss]; decide, fun _ h => (by cases h)⟩
  case queue => exact id
  case used => exact fun _ => ⟨Nat.zero_le _, List.Pairwise.nil, fun _ h => (by cases h), le_rfl, fun _ => ⟨rfl, rfl⟩⟩
  case spent =>
    rintro ⟨_, _, hrange, hfloor, _⟩
    refine ⟨⟨Nat.zero_le _, List.Pairwise.nil, fun _ h => (by cases h), le_rfl, fun _ => ⟨rfl, rfl⟩⟩,
      fun n hn => .inl ?_⟩
    rcases hn with hn | hn
    · exact lt_of_lt_of_le hn hfloor
    · exact (hrange n hn).2
  case test =>
    refine fun bound h => ⟨Nat.zero_le _, fun hactive => ?_⟩
    rw [(h.2 hactive).1] at hoff
    cases hoff
  case keypad => exact fun ⟨h1, h2, h3, h4, _, _, h7⟩ => ⟨h1, h2, h3, h4, (by decide : 0 < 5), Nat.zero_le _, h7⟩
  case link => exact fun _ _ => id
  case relay =>
    exact fun ⟨h1, h2, _, h4⟩ => ⟨h1, h2, fun h => absurd (hoff.symm.trans h) (by decide), h4⟩
  case reasons => exact fun _ _ h => absurd hpart h
  case load => exact fun late ⟨h1, _, _, _, _, _⟩ =>
    ⟨h1, Nat.zero_le _, fun _ h => (by cases h), Nat.zero_le _, Nat.zero_le _, .inl rfl⟩
  case tamper =>
    refine fun _ => ⟨(by decide : lossTable.toList.all filterInRange = true), (sources_all_iff _ _).mpr fun x => ?_,
      (by decide : 1 ≤ Config.defaultBypass), (by decide : Config.defaultBypass ≤ 255),
      (by decide : 1 ≤ Config.defaultReverse), (by decide : Config.defaultReverse ≤ 255), Nat.zero_le _, Nat.zero_le _⟩
    obtain ⟨hl, _, hc⟩ := hentry x
    simp [entrySound, hl, hc]
  case log =>
    refine fun _ => ⟨Nat.zero_le _, List.Pairwise.nil, fun _ h => (by cases h), Nat.zero_le _, le_rfl, le_rfl,
      fun _ h => (by cases h), fun e he _ n hn => ?_⟩
    obtain ⟨x, rfl⟩ := mem_sources.mp he
    rw [(hentry x).2.1] at hn
    cases hn
  case store => exact fun h => ⟨h, fun _ => id⟩
  case unwritten => exact id
  case latches => exact fun x _ => (hentry x).1
  case drive => exact id
  case host => rfl
  case notices => exact fun _ => id

theorem verifyStore_laws {d : Device} (hpart : d.power.part = .initializing) : keepsLaws [.relay] d (verifyStore d) := by
  unfold verifyStore
  refine .ite (fun _ => .refl _ _) fun _ => ?_
  exact (((retainedLoss_laws hpart).step (addRecord_laws .accountLost _)).mono).step (setPower_running_laws rfl rfl)

theorem verifyStore_power (d : Device) : (verifyStore d).power = { d.power with storeIntact := true } := by
  unfold verifyStore
  split
  case isTrue h => cases hp : d.power; rw [hp] at h; simp_all
  case isFalse =>
    rw [Device.setPower_power, (addRecord_keeps _ _).power]
    rfl

/-- After a failed check the used-code list is empty under the floor's top, and the One-Time Store stands (R84). -/
theorem verifyStore_failed {d : Device} (h : d.power.storeIntact = false) :
    (verifyStore d).codes = { d.codes with used := [], floor := Config.floorTop, validityDays := 0, windowMinutes := 0 } := by
  unfold verifyStore
  rw [if_neg (by simp [h]), Device.setPower_codes, (addRecord_keeps _ _).codes]
  rfl

theorem verifyStore_oneTime (d : Device) :
    (verifyStore d).oneTime = d.oneTime ∧ (verifyStore d).relay.state = d.relay.state := by
  unfold verifyStore
  split
  · exact ⟨rfl, rfl⟩
  · rw [Device.setPower_oneTime, (addRecord_keeps _ _).oneTime, Device.setPower_relay, (addRecord_keeps _ _).relay]
    exact ⟨rfl, rfl⟩

/-! ### The part state chosen (R187, step 3) -/

/-- A part state is chosen at the end of INITIALIZING: no test runs and no write is in flight. -/
theorem setPart_start_laws {d : Device} {p : PartState} (hinit : d.power.part = .initializing)
    (hlost : p = .accountLost → d.codes.used = [] ∧ d.codes.floor = Config.floorTop)
    (hwritten : p = .inService ∨ p = .accountLost → d.oneTime.isSome = true)
    (hunwritten : p = .uncommissioned → d.oneTime = none) : keepsLaws [.reasons, .relay] d (setPart p d) := by
  have hoff : running d = false := by simp [running, hinit]
  refine ((((((setPart_keeps p d).laws (L := [.used, .spent, .test, .link, .store, .reasons, .relay])).mend ?_).mend ?_).mend
    ?_).mend ?_).mend ?_
  · exact fun ⟨h1, h2, h3, h4, _⟩ => ⟨h1, h2, h3, h4, hlost⟩
  · exact fun ⟨h1, h2, h3, h4, _⟩ => ⟨⟨h1, h2, h3, h4, hlost⟩, fun _ => id⟩
  · refine fun bound h => ⟨h.1, fun hactive => ?_⟩
    rw [(h.2 hactive).1] at hoff
    cases hoff
  · exact fun _ _ ⟨h1, h2, h3, h4, h5, h6⟩ => ⟨h1, h2, h3, h4, h5, fun _ => h6 hoff⟩
  · refine fun ⟨_, _, hflight⟩ => ⟨⟨hwritten, hunwritten, fun h => ?_⟩, fun _ => id⟩
    rw [(hflight h).1] at hoff
    cases hoff

theorem chosenPart_ne (i : Bool) (o : Option OneTime) : chosenPart i o ≠ .initializing := by
  unfold chosenPart
  repeat' split
  all_goals simp

/-- {RESTARTED} replaces the pending notices (R187, step 1). -/
def noteRestarted (d : Device) : Device := d.setHost { d.host with notices := noticeSet .restarted }

/-- The part with its store verified and its part state chosen (R187, steps 1 to 3). -/
def chosenDevice (d : Device) : Device :=
  setPart (chosenPart d.power.storeIntact d.oneTime)
    (verifyStore (noteRestarted d))

theorem chosenDevice_power (d : Device) :
    (chosenDevice d).power
      = { d.power with part := chosenPart d.power.storeIntact d.oneTime, storeIntact := true } := by
  unfold chosenDevice setPart
  rw [Device.setPower_power, verifyStore_power]
  rfl

theorem chosenDevice_laws {d : Device} (hinit : d.power.part = .initializing) :
    keepsLaws [.host, .notices, .reasons, .relay] d (chosenDevice d) := by
  have hnoted : keepsLaws [.host, .notices] d (noteRestarted d) :=
    keepsBut.laws (setHost_keeps d _)
  have hverified := verifyStore_laws (d := noteRestarted d) hinit
  have hpower := verifyStore_power (noteRestarted d)
  have hone := (verifyStore_oneTime (noteRestarted d)).1
  refine ((hnoted.mono (L := [.host, .notices, .reasons, .relay])).step hverified).step
    (setPart_start_laws (by rw [hpower]; exact hinit) ?_ ?_ ?_)
  · intro hlost
    have hfailed : d.power.storeIntact = false := by
      cases h : d.power.storeIntact
      · rfl
      · rw [h] at hlost
        cases ho : d.oneTime <;> rw [ho] at hlost <;> cases hlost
    rw [verifyStore_failed (d := noteRestarted d) hfailed]
    exact ⟨rfl, rfl⟩
  · rw [hone]
    intro h
    cases ho : d.oneTime with
    | some o => exact (congrArg Option.isSome ho).trans rfl
    | none => rw [ho] at h; rcases h with h | h <;> cases h
  · rw [hone]
    intro h
    cases ho : d.oneTime with
    | some o => rw [ho] at h; unfold chosenPart at h; dsimp only at h; split at h <;> cases h
    | none => exact ho

/-! ### The lines, the reasons and the processing (R187, steps 4 to 6) -/

theorem rearmStart_laws (intact : Bool) (first : List Source) (d : Device) :
    keepsLaws [] d (rearmStart intact first d) := by
  have hcleared : keepsLaws [] d (d.setTamper { d.tamper with deferred := noDeferred }) := setTamper_laws rfl id
  unfold rearmStart
  dsimp only
  split
  · exact (hcleared.step (rearmLines_laws _ _)).foldl (fun e s => detect_laws s none e) _
  · exact hcleared.step (rearmLines_laws _ _)

theorem handStart_laws (d : Device) : keepsLaws [.reasons] d (handStart d) := by
  have hhanded : keepsLaws [.reasons] d (evaluateTamper (handAccountReasons d)) :=
    (handAccountReasons_laws d).step (evaluateTamper_laws _)
  unfold handStart
  exact .ite (fun _ => hhanded.step (raiseNotice_laws _ _)) fun _ => hhanded

theorem handStart_keeps (d : Device) : keepsBut [.relay, .log, .host] d (handStart d) := by
  have hhanded : keepsBut [.relay, .log, .host] d (evaluateTamper (handAccountReasons d)) :=
    keepsBut_comp (handAccountReasons_keeps d) (evaluateTamper_keeps _)
  unfold handStart
  dsimp only
  split
  · exact keepsBut_comp hhanded (raiseNotice_keeps _ _)
  · exact hhanded

/-- CREDIT, ACCOUNT and TAMPER as handed on at start-up (R187, step 5). -/
theorem handStart_reasons (d : Device) :
    (handStart d).relay.reasons
      = { d.relay.reasons with credit := creditReasonOf d, account := accountReasonOf d, tamper := tamperReasonOf d } := by
  have hk := handAccountReasons_keeps d
  have hevaluated : (evaluateTamper (handAccountReasons d)).relay.reasons
      = { d.relay.reasons with credit := creditReasonOf d, account := accountReasonOf d, tamper := tamperReasonOf d } := by
    rw [evaluateTamper, setReason_reasons, handAccountReasons_reasons, tamperReasonOf_congr hk.tamper]
    rfl
  unfold handStart
  dsimp only
  split <;> exact hevaluated

theorem handStart_current (late : Prop) (d : Device) : ReasonsBut late (handStart d) := by
  have hk := handStart_keeps d
  intro _
  rw [handStart_reasons, creditReasonOf_congr hk.power hk.account hk.settings hk.clock, accountReasonOf_congr hk.power,
    tamperReasonOf_congr hk.tamper]
  exact ⟨.inl rfl, rfl, rfl⟩

theorem processStart_laws (d : Device) : keepsLaws [] d (processStart d) := by
  unfold processStart
  exact .ite (fun _ => (dayProcessing_laws d).step (activationTest_laws _)) fun _ => .refl _ _

theorem processStart_keeps (d : Device) :
    keepsBut [.account, .clock, .intake, .relay, .tariffs, .log, .host] d (processStart d) := by
  unfold processStart
  split
  · exact keepsBut_comp (dayProcessing_keeps d) (activationTest_keeps _)
  · exact keepsBut_refl _ _

theorem rearmStart_keeps (intact : Bool) (first : List Source) (d : Device) :
    keepsBut [.tamper, .relay, .log, .host] d (rearmStart intact first d) := by
  have hcleared : keepsBut [.tamper] d (d.setTamper { d.tamper with deferred := noDeferred }) := setTamper_keeps _ _
  have hdetected : ∀ (l : List Source) (e : Device),
      keepsBut [.tamper, .relay, .log, .host] e (l.foldl (fun now s => detect s none now) e) := by
    intro l
    induction l with
    | nil => exact fun e => keepsBut_refl _ e
    | cons s l ih => exact fun e => keepsBut_comp (detect_keeps s none e) (ih _)
  unfold rearmStart
  dsimp only
  split
  · exact keepsBut_comp (keepsBut_comp (n := [.tamper]) hcleared (rearmLines_keeps _ _)) (hdetected _ _)
  · exact keepsBut_comp hcleared (rearmLines_keeps _ _)

/-! ### The end (R187) -/

/-- The part with its reasons handed on and its days processed, its relay not yet resolved (R187, steps 1 to 6). -/
def startedDevice (first : List Source) (d : Device) : Device :=
  processStart (handStart (rearmStart d.power.storeIntact first (chosenDevice d)))

theorem endInitializing_eq (strap : Level) (first : List Source) (d : Device) :
    endInitializing strap first d
      = setInitTiming false (startPorts strap (resolveRelay (startedDevice first d))) := rfl

theorem startedDevice_frame (first : List Source) (d : Device) :
    keepsBut [.tamper, .account, .clock, .intake, .relay, .tariffs, .log, .host] (chosenDevice d) (startedDevice first d) :=
  keepsBut_comp (keepsBut_comp (n := [.tamper, .relay, .log, .host]) (rearmStart_keeps _ first _) (handStart_keeps _))
    (processStart_keeps _)

theorem startedDevice_power (first : List Source) (d : Device) :
    (startedDevice first d).power
      = { d.power with part := chosenPart d.power.storeIntact d.oneTime, storeIntact := true } :=
  (startedDevice_frame first d).power.trans (chosenDevice_power d)

/-- What follows the processing touches the relay, the ports, the intake's filters and the initialization time. -/
theorem endInitializing_frame (strap : Level) (first : List Source) (d : Device) :
    keepsBut [.power, .relay, .intake, .link, .service, .log, .host] (startedDevice first d) (endInitializing strap first d)
      ∧ (endInitializing strap first d).relay = (resolveRelay (startedDevice first d)).relay
      ∧ (endInitializing strap first d).power
        = { d.power with
            part := chosenPart d.power.storeIntact d.oneTime, storeIntact := true, initTiming := false } := by
  have hports := startPorts_keeps strap (resolveRelay (startedDevice first d))
  have hresolved := resolveRelay_keeps (startedDevice first d)
  have htimed := setInitTiming_keeps false (startPorts strap (resolveRelay (startedDevice first d)))
  rw [endInitializing_eq]
  refine ⟨keepsBut_comp (keepsBut_comp (n := [.relay, .intake, .link, .service, .log, .host]) hresolved hports) htimed,
    htimed.relay.trans hports.relay, ?_⟩
  unfold setInitTiming
  rw [Device.setPower_power, hports.power, hresolved.power, startedDevice_power]

theorem endInitializing_laws {strap : Level} {first : List Source} {d : Device} (hinit : d.power.part = .initializing)
    (htiming : d.power.initTiming = true) : keepsLaws [.host, .notices] d (endInitializing strap first d) := by
  obtain ⟨hframe, hrelay, hpower⟩ := endInitializing_frame strap first d
  have hhanded : keepsLaws [.host, .notices, .reasons, .relay] d
      (handStart (rearmStart d.power.storeIntact first (chosenDevice d))) :=
    ((chosenDevice_laws hinit).step (rearmStart_laws _ _ _)).step (handStart_laws _)
  have hcurrent : Law.reasons.kept d (handStart (rearmStart d.power.storeIntact first (chosenDevice d))) :=
    fun late _ => handStart_current late _
  have hended : keepsLaws [.host, .relay] (handStart (rearmStart d.power.storeIntact first (chosenDevice d)))
      (endInitializing strap first d) := by
    rw [endInitializing_eq]
    exact (((processStart_laws _).mono (L := [.host, .relay])).step (resolveRelay_laws_aside _)).step
      (startPorts_laws strap _) |>.step (setPower_running_laws rfl rfl)
  have hmended : keepsLaws [.host, .notices, .relay] d (handStart (rearmStart d.power.storeIntact first (chosenDevice d))) :=
    (hhanded.mono (L := [.reasons, .host, .notices, .relay])).mend hcurrent
  refine ((hmended.step hended).mono (L := [.relay, .host, .notices])).mend ?_
  rintro ⟨⟨_, htimed⟩, _⟩
  obtain ⟨_, hreleased, hmains⟩ := htimed.mp htiming
  have hpart := chosenPart_ne d.power.storeIntact d.oneTime
  have hrun : running (startedDevice first d) = true := by
    simp [running, startedDevice_power, hmains, hpart]
  have hrunEnd : running (endInitializing strap first d) = true := by simp [running, hpower, hmains, hpart]
  obtain ⟨hheld, hallowed⟩ := resolveRelay_allowed hrun
  refine ⟨⟨fun _ => by simp [alive, hpower, hmains, hreleased], by simp [hpower, hpart]⟩, ?_, fun _ => hrelay ▸ hallowed,
    fun h => absurd (hrunEnd.symm.trans h) (by decide)⟩
  rw [hpower, hrelay]
  simp [hpart, hheld]

end Sys2Proof.Machine
end

section
/-! PROOFS. What every command does to the laws. -/

namespace Sys2Proof.Machine

/-! ### Requests at the service port -/

/-- What a request does, taken while the ports run. -/
def HandlerChange (h : Handler) : Prop := ∀ d, running d = true → Change d (h d).1

theorem HandlerLaws.change {h : Handler} (hh : HandlerLaws [] h) : HandlerChange h :=
  fun d hrun => .of_laws (hh d hrun)

theorem changing_change {h : Handler}
    (hh : ∀ d, running d = true → 0 < d.codes.windowMinutes → Change d (h d).1) : HandlerChange (changing h) := by
  intro d hrun
  unfold changing
  split
  · exact .refl _
  · exact hh d hrun (by omega)

theorem changing_of_laws {h : Handler} (hh : HandlerLaws [] h) : HandlerChange (changing h) :=
  changing_change fun d hrun _ => .of_laws (hh d hrun)

theorem noParameters_change (p : List Byte) {h : Handler} {d : Device} (hh : Change d (h d).1) :
    Change d (noParameters p h d).1 := by
  unfold noParameters
  split
  · exact hh
  · exact .refl _

/-- RETRY_RELAY drives toward closed from STUCK over an empty set alone (R122). -/
theorem retry_change {d : Device} (hrun : running d = true) : Change d (retryHandler d).1 := by
  refine .driving (retry_laws d hrun).mono fun _ hlow hraised => ?_
  unfold retryHandler at hraised ⊢
  dsimp only at hraised ⊢
  split at hraised
  case h_1 => exact absurd (hlow.symm.trans hraised) (by decide)
  case h_2 => exact absurd (hlow.symm.trans hraised) (by decide)
  case h_3 hst =>
    cases hempty : d.relay.reasons.isEmpty
    case false =>
      rw [hempty] at hraised
      simp [closeDrive, startAttempt] at hraised
    case true => exact ⟨hempty, hrun, .inr (.inl (by rw [hst]; rfl))⟩
  case h_4 => exact absurd (hlow.symm.trans hraised) (by decide)

theorem restore_change (p : List Byte) (d : Device) : Change d (restoreHandler p d).1 := by
  unfold restoreHandler
  split
  · exact .refl _
  case h_2 r hr =>
    split
    case isTrue hlost =>
      refine .entering (restoreAccount_laws (restoredOf_inRange hr) hlost).mono ⟨.inr hlost, ?_⟩
      obtain ⟨_, _, _, _, hpower, _⟩ := restoreAccount_frame r d
      exact congrArg Power.part hpower
    case isFalse => exact .refl _

theorem serviceRestart_change (p : List Byte) :
    HandlerChange (changing (noParameters p fun d => (restart d, accepted []))) :=
  changing_change fun d _ _ => noParameters_change p (h := fun d => (restart d, accepted [])) (.ordinary (restart_laws d))

/-- Every request of Table 10-2, by its code. -/
theorem serviceHandler_change {code : Nat} {p : List Byte} {h : LateHandler} (hcode : serviceHandler code p = some h)
    {d : Device} (hrun : running d = true) : Change d (h d).1 := by
  unfold serviceHandler at hcode
  split at hcode <;> cases hcode
  · exact (pagedRead_laws p _).change d hrun
  · exact (noParameters_laws p (reading_laws _)).change d hrun
  · exact (readTariff_laws p).change d hrun
  · exact (pagedRead_laws p _).change d hrun
  · exact (pagedRead_laws p _).change d hrun
  · exact (noParameters_laws p (reading_laws _)).change d hrun
  · exact (noParameters_laws p (reading_laws _)).change d hrun
  · exact (pagedRead_laws p _).change d hrun
  · exact (noParameters_laws p (reading_laws _)).change d hrun
  · exact (noParameters_laws p serviceLog_laws).change d hrun
  · exact (noParameters_laws p serviceOldest_laws).change d hrun
  · exact (noParameters_laws p serviceNewest_laws).change d hrun
  · exact (submitPort_handler_laws (by decide) p).change d hrun
  · exact .of_laws (commission_laws p hrun)
  · exact changing_of_laws (config_laws p) d hrun
  · exact changing_of_laws (table_laws p) d hrun
  · exact changing_of_laws (serviceTime_laws p) d hrun
  · exact changing_of_laws (noticeTariff_laws (putTariff_laws p)) d hrun
  · exact changing_of_laws (noticeTariff_laws (noParameters_laws p cancelPending_laws)) d hrun
  · exact changing_of_laws (noParameters_laws p (hold_laws true)) d hrun
  · exact changing_of_laws (noParameters_laws p (hold_laws false)) d hrun
  · exact changing_change (fun e he _ => noParameters_change p (retry_change he)) d hrun
  · exact changing_change (fun e he hopen => noParameters_change p (.of_laws (testStart_laws he hopen))) d hrun
  · exact changing_of_laws (noParameters_laws p testEnd_laws) d hrun
  · exact changing_change (fun e _ _ => restore_change p e) d hrun
  · exact changing_of_laws (noParameters_laws p fun e _ => clearCounts_laws e) d hrun
  · exact serviceRestart_change p d hrun

theorem replyWith_steady (c : Byte) (a : Option Answer) (d : Device) : Steady d (replyWith c a d) := by
  refine ⟨(replyWith_laws c a d).mono, ?_, ?_⟩
  all_goals (unfold replyWith; split <;> rfl)

theorem huntService_steady (d : Device) : Steady d (huntService d) := ⟨(huntService_laws d).mono, rfl, rfl⟩

theorem serviceServe_change {code : Byte} {p : List Byte} {h : LateHandler}
    (hh : ∀ e, running e = true → Change e (h e).1) (d : Device) : Change d (serviceServe code p h d) := by
  unfold serviceServe
  split
  case isFalse => exact .refl _
  case isTrue hready =>
    have hrun : running (huntService d) = true := (Bool.and_eq_true_iff.mp hready).1
    refine .after (huntService_steady d) ?_
    dsimp only
    split
    · exact .refl _
    split
    · exact (Change.refl _).followed (replyWith_steady _ _ _)
    · exact (hh _ hrun).followed (replyWith_steady _ _ _)

theorem serviceFrame_change (kind : Byte) (payload : List Byte) (d : Device) : Change d (serviceFrame kind payload d) := by
  unfold serviceFrame
  cases hcode : serviceHandler kind.toNat payload with
  | none => exact serviceServe_change (fun e _ => .refl e) d
  | some h => exact serviceServe_change (fun e he => serviceHandler_change hcode he) d

theorem serviceCharacter_change (c : Byte) (d : Device) : Change d (serviceCharacter c d) := by
  unfold serviceCharacter
  split
  case isFalse => exact .refl _
  split
  · exact .of_laws (setService_laws rfl)
  · exact .of_laws (huntService_laws d)
  · exact .after (huntService_steady d) (serviceFrame_change _ _ _)

/-! ### Requests at the meter host port -/

theorem HandlerLaws.mono {L M : List Law} {h : Handler} (hh : HandlerLaws M h) (hM : M ⊆ L := by decide) :
    HandlerLaws L h := fun d hrun => (hh d hrun).mono hM

/-- A request arrival at the meter host port, whatever its parameters. -/
theorem hostServe_change {p : List Byte} {h : Handler} (hh : HandlerLaws [.host, .notices] h) (d : Device) :
    Change d (hostServe p h d) := by
  unfold hostServe
  refine .ordinary (.ite (fun hrun => .ite (fun _ => ?_) fun _ => ?_) fun _ => .refl _ _)
  · exact (hh d hrun).step (prepare_laws _ _)
  · exact (badHostFrame_laws d).mono

theorem hostServe_reading_change (p : List Byte) (data : Device → List Byte) (d : Device) :
    Change d (hostServe p (noParameters p (reading data)) d) :=
  hostServe_change (noParameters_laws p (reading_laws data)) d

/-! ### Every command -/

/-- What a command leads to: a change as above, a second tick whose parts are all taken, the completion of the check in
progress, or of a COMMISSION write. -/
inductive Taken (i : Instr) (d e : Device) : Prop
  | change (h : Change d e)
  | tick (order : List TickPart) (hall : ∀ p, p ∈ order) (h : e = secondStep order d)
  | checked (c : QueuedCode) (hi : i = .checkCompletion) (hc : d.codes.inCheck = some c) (h : e = completeCheck c d)
  | commissioned (o : OneTime) (hi : i = .commissionCompletion) (ho : d.service.commissioning = some o)
      (hunc : d.power.part = .uncommissioned) (h : e = completeCommission o d)

section
variable {i : Instr} {s : State} {d e f : Device}

theorem Taken.ite {c : Prop} {_ : Decidable c} (he : c → Taken i d e) (hf : ¬ c → Taken i d f) :
    Taken i d (if c then e else f) := by
  split
  · exact he ‹_›
  · exact hf ‹_›

theorem Taken.of_laws (h : keepsLaws [] d e) : Taken i d e := .change (.of_laws h)

theorem Taken.stays : Taken i d d := .change (.refl d)

theorem Taken.guarded {c : Prop} {_ : Decidable c} (h : c → keepsLaws [.host, .notices] d e) :
    Taken i d (if c then e else d) := .ite (fun hc => .change (.ordinary (h hc))) fun _ => .stays

theorem Taken.guardedTick {c : Prop} {_ : Decidable c} (first : List TickPart) :
    Taken i d (if c then secondStep (tickOrder first) d else d) :=
  .ite (fun _ => .tick _ (mem_tickOrder first) rfl) fun _ => .stays

/-- An outcome that is one whole event, which takes the device as `Taken` says. -/
def Event (i : Instr) (s : State) (o : Host.Outcome State Fault Refusal) : Prop :=
  ∃ f, o = takeEvent s f ∧ Taken i s.device (f s.device)

theorem event_of {f : Device → Device} (h : Taken i s.device (f s.device)) : Event i s (takeEvent s f) := ⟨f, rfl, h⟩

theorem event_of_change {f : Device → Device} (h : Change s.device (f s.device)) : Event i s (takeEvent s f) :=
  event_of (.change h)

theorem pulseGlitch_event (p : Phase) : Event i s (execPulseGlitch p s) := by
  unfold execPulseGlitch
  exact event_of (.ite (fun _ => .stays) fun _ => .of_laws (setPulseLine_laws p _ _))

theorem driveCompletion_event : Event i s (execDriveCompletion s) := by
  unfold execDriveCompletion
  refine event_of ?_
  split
  case h_1 hop => exact .guarded fun _ => (driveCompletion_laws (operation_eq hop)).mono
  case h_2 => exact .stays

theorem confirmationExpiry_event : Event i s (execConfirmationExpiry s) := by
  unfold execConfirmationExpiry
  refine event_of ?_
  split
  case h_1 hop =>
    refine .ite (fun _ => .stays) fun hends => .of_laws (confirmationExpiry_laws (operation_eq hop) ?_)
    simp only [Bool.or_eq_true, not_or, Bool.not_eq_true] at hends
    exact hends.1.1
  case h_2 => exact .stays

theorem retryExpiry_event : Event i s (execRetryExpiry s) := by
  unfold execRetryExpiry
  refine event_of ?_
  split
  case h_1 hop => exact .ite (fun hwaiting => .change (retryExpiry_change (operation_eq hop) hwaiting)) fun _ => .stays
  case h_2 => exact .stays

theorem positionWatchExpiry_event : Event i s (execPositionWatchExpiry s) := by
  unfold execPositionWatchExpiry
  refine event_of (.ite (fun hwatch => ?_) fun _ => .stays)
  split
  case h_1 => exact .of_laws (goStuck_laws (Bool.and_eq_true_iff.mp hwatch).1 _ _)
  case h_2 => exact .stays

theorem checkCompletion_event : Event .checkCompletion s (execCheckCompletion s) := by
  unfold execCheckCompletion
  refine event_of ?_
  split
  case h_1 c hc => exact .checked c rfl hc rfl
  case h_2 => exact .stays

theorem responseCompletion_event : Event i s (execResponseCompletion s) := by
  unfold execResponseCompletion
  refine event_of ?_
  split
  case h_1 a _ _ => exact .change (.ordinary (keepsLaws.mono (M := [.host]) (setHost_laws rfl)))
  case h_2 => exact .stays

theorem commissionCompletion_event : Event .commissionCompletion s (execCommissionCompletion s) := by
  unfold execCommissionCompletion
  refine event_of ?_
  split
  case h_1 o ho => exact .ite (fun h => .commissioned o rfl ho h.2 rfl) fun _ => .stays
  case h_2 => exact .stays

theorem resetAssert_event : Event i s (execResetAssert s) := by
  unfold execResetAssert
  exact event_of (.ite (fun _ => .stays) fun _ => .change (.ordinary (assertReset_laws _)))

theorem poweredFromNothing_event (level : Level) (r : Bool) : Event i s (execPoweredFromNothing level r s) := by
  unfold execPoweredFromNothing
  exact event_of (.ite (fun _ => .stays) fun hdead => .of_laws (gainSupply_laws (by simpa using hdead)))

/-- Every command is one whole event. -/
theorem exec_event (i : Instr) (s : State) : Event i s (exec i s) := by
  cases i with
  -- Pulse Intake (chapter 1)
  | pulseLineFall p => exact event_of (.of_laws (setPulseLine_laws p _ _))
  | pulseFilterExpiry p => exact event_of (.guarded fun _ => (setFilter_laws p _ _).mono)
  | pulseArrival p direction openFirst =>
    exact event_of (.guarded fun _ =>
      (((setPulseLine_laws p .high _).step (setFilter_laws p .waiting _)).step (routeQuantum_laws p _ _ _)).mono)
  | pulseGlitch p => exact pulseGlitch_event p
  -- the second tick, and the commands that name what it brings about
  | secondTick first => exact event_of (.tick _ (mem_tickOrder first) rfl)
  | minuteBoundary | dayBoundary | serviceWindowExpiry | lockoutExpiry => exact event_of (.guardedTick [.boundary])
  | slotBoundary => exact event_of (.guardedTick [.slot])
  | backoffExpiry => exact event_of (.guardedTick [.backoff])
  | testExpiry => exact event_of (.guardedTick [.test])
  | stepExpiry | inactivityExpiry => exact event_of (.guardedTick [])
  | presenceExpiry => exact event_of (.guardedTick [.presence])
  -- the customer link (chapter 5)
  | linkDamagedCharacter error => exact event_of (.guarded fun _ => (damagedCharacter_laws error _).mono)
  | linkGapExpiry | linkBadFrameCheck => exact event_of (.guarded fun _ => (badLinkFrame_laws _).mono)
  | linkGoodCharacter c => exact event_of_change (linkCharacter_change c _)
  | digitKey digit =>
    exact event_of_change (linkArrival_change fun _ _ => keyArrival_change fun e _ => .of_laws (digitAction_laws digit e))
  | backKey =>
    exact event_of_change (linkArrival_change fun _ _ => keyArrival_change fun e _ => .of_laws (backAction_laws e))
  | enterKey =>
    exact event_of_change (linkArrival_change fun _ _ => keyArrival_change fun e _ => .of_laws (enterAction_laws e))
  | emergencyKey =>
    exact event_of_change (linkArrival_change fun _ _ => keyArrival_change fun e _ => .of_laws (emergencyAction_laws e))
  | reconnectKey =>
    exact event_of_change (linkArrival_change fun _ hrun =>
      keyArrival_change fun _ he => reconnectPress_change (he.trans hrun))
  | infoKey =>
    exact event_of_change (linkArrival_change fun _ _ => keyArrival_change fun e _ => .of_laws (infoAction_laws e))
  | presenceFrame caseOpen version =>
    exact event_of_change (linkArrival_change fun e _ => .of_laws (presenceAction_laws _ _ e))
  | linkOtherFrame kind payload =>
    exact event_of_change (linkArrival_change fun _ hrun => frameAction_change kind payload hrun)
  | statusPeriodExpiry | statusTransmitStart => exact event_of (.guarded fun h => (beginStatus_laws h.1).mono)
  | statusFrameEnd =>
    refine event_of (.guarded fun h => ?_)
    exact .ite (fun _ => (endStatus_laws _).mono.step
      (beginStatus_laws (d := s.device.setLink { s.device.link with sending := none }) h.1))
      fun _ => (endStatus_laws _).mono
  -- the Relay Controller (chapter 6) and the sense lines (section 7.1)
  | driveCompletion => exact driveCompletion_event
  | confirmationExpiry => exact confirmationExpiry_event
  | retryExpiry => exact retryExpiry_event
  | positionWatchExpiry => exact positionWatchExpiry_event
  | senseLineChange line level => exact event_of (.of_laws (changeLine_laws line level _))
  | senseFilterExpiry line => exact event_of_change (expireLine_change line _)
  | checkCompletion => exact checkCompletion_event
  -- the meter host port (chapter 9)
  | getStatus p | getAccount p | getDemand p | getTamper p | getRelayFault p =>
    exact event_of_change (hostServe_reading_change p _ _)
  | getTariff p => exact event_of_change (hostServe_change (getTariff_laws p) _)
  | hostPutPendingTariff p => exact event_of_change (hostServe_change (putTariff_laws p).mono _)
  | hostCancelPending p => exact event_of_change (hostServe_change (noParameters_laws p cancelPending_laws.mono) _)
  | hostSubmitCode p => exact event_of_change (hostServe_change (submitPort_handler_laws (by decide) p).mono _)
  | getCodeResult p => exact event_of_change (hostServe_change (noParameters_laws p codeResult_laws.mono) _)
  | hostSetTime p => exact event_of_change (hostServe_change (hostTime_laws p).mono _)
  | remoteHold p => exact event_of_change (hostServe_change (noParameters_laws p (remote_laws true).mono) _)
  | remoteRelease p => exact event_of_change (hostServe_change (noParameters_laws p (remote_laws false).mono) _)
  | reportMetrologyTamper p => exact event_of_change (hostServe_change (metrology_laws p).mono _)
  | hostReadLog p => exact event_of_change (hostServe_change (noParameters_laws p hostLog_laws.mono) _)
  | hostSeekOldest p => exact event_of_change (hostServe_change (noParameters_laws p hostOldest_laws.mono) _)
  | hostSeekNewest p => exact event_of_change (hostServe_change (noParameters_laws p hostNewest_laws.mono) _)
  | mark p => exact event_of_change (hostServe_change (noParameters_laws p mark_laws.mono) _)
  | returnToMark p => exact event_of_change (hostServe_change (noParameters_laws p return_laws.mono) _)
  | getNotices p => exact event_of_change (hostServe_change (noParameters_laws p notices_laws) _)
  | setNoticeEnable p => exact event_of_change (hostServe_change (enable_laws p).mono _)
  | hostRestart p => exact event_of_change (hostServe_change (noParameters_laws p fun d _ => restart_laws d) _)
  | hostBadFrame => exact event_of (.guarded fun _ => (badHostFrame_laws _).mono)
  | hostUnknownRequest code => exact event_of (.guarded fun _ => (prepare_laws _ _).mono)
  | responseCompletion => exact responseCompletion_event
  -- the service port (section 10.2)
  | readStatus p => exact event_of_change (serviceFrame_change 0x40 p _)
  | readAccount p => exact event_of_change (serviceFrame_change 0x41 p _)
  | readTariff p => exact event_of_change (serviceFrame_change 0x42 p _)
  | readDemand p => exact event_of_change (serviceFrame_change 0x43 p _)
  | readTamper p => exact event_of_change (serviceFrame_change 0x44 p _)
  | readLink p => exact event_of_change (serviceFrame_change 0x45 p _)
  | readEnergy p => exact event_of_change (serviceFrame_change 0x46 p _)
  | readCodeList p => exact event_of_change (serviceFrame_change 0x47 p _)
  | readCodeResult p => exact event_of_change (serviceFrame_change 0x48 p _)
  | serviceReadLog p => exact event_of_change (serviceFrame_change 0x49 p _)
  | serviceSeekOldest p => exact event_of_change (serviceFrame_change 0x4A p _)
  | serviceSeekNewest p => exact event_of_change (serviceFrame_change 0x4B p _)
  | serviceSubmitCode p => exact event_of_change (serviceFrame_change 0x4C p _)
  | commission p => exact event_of_change (serviceFrame_change 0x4D p _)
  | writeConfig p => exact event_of_change (serviceFrame_change 0x4E p _)
  | writeFunctionTable p => exact event_of_change (serviceFrame_change 0x4F p _)
  | serviceSetTime p => exact event_of_change (serviceFrame_change 0x50 p _)
  | servicePutPendingTariff p => exact event_of_change (serviceFrame_change 0x51 p _)
  | serviceCancelPending p => exact event_of_change (serviceFrame_change 0x52 p _)
  | serviceHold p => exact event_of_change (serviceFrame_change 0x53 p _)
  | serviceRelease p => exact event_of_change (serviceFrame_change 0x54 p _)
  | retryRelay p => exact event_of_change (serviceFrame_change 0x55 p _)
  | testStart p => exact event_of_change (serviceFrame_change 0x56 p _)
  | testEnd p => exact event_of_change (serviceFrame_change 0x57 p _)
  | restoreAccount p => exact event_of_change (serviceFrame_change 0x58 p _)
  | clearLinkCounts p => exact event_of_change (serviceFrame_change 0x59 p _)
  | serviceRestart p => exact event_of_change (serviceFrame_change 0x5A p _)
  | serviceUnknownRequest kind payload =>
    exact ⟨_, rfl, .ite (fun _ => .change (serviceServe_change (fun e _ => .refl e) _)) fun _ => .stays⟩
  | commissionCompletion => exact commissionCompletion_event
  | serviceGoodCharacter c => exact event_of_change (serviceCharacter_change c _)
  | serviceGapExpiry | serviceDamagedCharacter | serviceBadFrameCheck =>
    exact event_of (.guarded fun _ => (huntService_laws _).mono)
  | serviceResponseTransmit | serviceResponseEnd =>
    exact event_of (.guarded fun _ => keepsLaws.mono (M := []) (setService_laws rfl))
  -- power (sections 10.1, 10.4 and 10.5)
  | mainsLoss => exact event_of (.guarded fun h => (loseMains_laws h).mono)
  | mainsReturn strap => exact event_of (.guarded fun h => (returnMains_laws h.1 h.2).mono)
  | resetAssert => exact resetAssert_event
  | resetRelease => exact event_of (.guarded fun h => (releaseReset_laws h).mono)
  | initMainsChange level => exact event_of (.guarded fun h => (changeInitMains_laws h.1).mono)
  | endOfInitializing strap first => exact event_of (.guarded fun h => endInitializing_laws h.1 h.2.1)
  | backupAndMainsLost => exact event_of (.guarded fun _ => loseSupply_laws _)
  | poweredFromNothing level r => exact poweredFromNothing_event level r

end

end Sys2Proof.Machine
end

section
/-! PROOFS. What every step keeps: the invariants of Safety.lean, and the safety statements that rest on them. -/

namespace Sys2Proof.Machine

/-! ### One step -/

/-- A step idles, or takes the command at the front of the queue as one whole event, whose display is noted. -/
theorem step_cases {s t : State} (h : step s = .next t) :
    t = s ∨ ∃ (i : Instr) (rest : List Instr) (e : Device),
      s.pending = i :: rest ∧ Taken i s.device e ∧ t.device = noteDisplay s.device e := by
  unfold step at h
  split at h
  · cases h
    exact .inl rfl
  case h_2 i rest hpending =>
    obtain ⟨f, hexec, htaken⟩ := exec_event i (s.withPending rest)
    rw [hexec] at h
    cases h
    exact .inr ⟨i, rest, _, hpending, htaken, rfl⟩

/-- The laws that some event breaks, or keeps only from a sound state. -/
def eventLaws : List Law := [.test, .link, .load, .reasons, .host, .notices, .drive, .spent, .unwritten, .latches]

section
variable {i : Instr} {d e : Device}

theorem Change.kept (h : Change d e) {l : Law} (hl : l ∉ [Law.host, .notices, .drive, .spent]) : l.kept d e := by
  simp only [List.mem_cons, List.not_mem_nil, or_false, not_or] at hl
  cases h with
  | ordinary laws | driving laws | entering laws => exact laws l (by simp [hl])

theorem Taken.kept (h : Taken i d e) {l : Law} (hl : l ∉ eventLaws) : l.kept d e := by
  simp only [eventLaws, List.mem_cons, List.not_mem_nil, or_false, not_or] at hl
  cases h with
  | change h => exact h.kept (by simp [hl])
  | tick order hall h => exact h ▸ tick_laws order l (by simp [hl])
  | checked c _ _ h => exact h ▸ completeCheck_laws c d l (by simp [hl])
  | commissioned o _ _ hunc h => exact h ▸ completeCommission_laws hunc l (by simp [hl])

/-- A law that every event but a second tick keeps, and that a whole tick keeps of a sound state. -/
theorem Taken.kept_or_tick (h : Taken i d e) {l : Law} (hl : l ∈ [Law.test, .link, .load, .reasons]) :
    l.kept d e ∨ ∃ order : List TickPart, (∀ p, p ∈ order) ∧ e = secondStep order d := by
  cases h with
  | change h => exact .inl (h.kept (by revert l; decide))
  | tick order hall h => exact .inr ⟨order, hall, h⟩
  | checked c _ _ h => exact .inl (h ▸ completeCheck_laws c d l (by revert l; decide))
  | commissioned o _ _ hunc h => exact .inl (h ▸ completeCommission_laws hunc l (by revert l; decide))

theorem Taken.test (h : Taken i d e) (hd : TestSound d) : TestSound e := by
  rcases h.kept_or_tick (l := .test) (by decide) with hkept | ⟨order, hall, rfl⟩
  · rw [testSound_iff] at hd ⊢
    exact hkept _ hd
  · exact tick_test order hall hd

theorem Taken.link (h : Taken i d e) (hd : LinkSound d) : LinkSound e := by
  rcases h.kept_or_tick (l := .link) (by decide) with hkept | ⟨order, hall, rfl⟩
  · rw [linkSound_iff] at hd ⊢
    exact hkept _ (by decide) hd
  · exact tick_link order hall hd

theorem Taken.load (h : Taken i d e) (hd : LoadSound d) : LoadSound e := by
  rcases h.kept_or_tick (l := .load) (by decide) with hkept | ⟨order, hall, rfl⟩
  · rw [loadSound_iff] at hd ⊢
    exact hkept _ hd
  · exact tick_load order hall hd

theorem Taken.reasons (h : Taken i d e) (hd : ReasonsSound d) : ReasonsSound e := by
  rcases h.kept_or_tick (l := .reasons) (by decide) with hkept | ⟨order, hall, rfl⟩
  · rw [reasonsSound_iff] at hd ⊢
    exact hkept _ hd
  · exact tick_reasons order hall hd

end

section
variable {s t : State}

/-- A law kept by every event is kept by every step. -/
theorem step_kept (h : step s = .next t) {l : Law} (hl : l ∉ eventLaws) : l.kept s.device t.device := by
  rcases step_cases h with rfl | ⟨i, rest, e, _, htaken, ht⟩
  · exact l.kept_refl _
  · exact ht ▸ Law.kept_trans (htaken.kept hl) (noteDisplay_laws _ _ l (by simp))

/-- An invariant that every event keeps, and the note of the display, is kept by every step. -/
theorem step_keeps_invariant {P : Device → Prop} (hP : ∀ {i d e}, Taken i d e → P d → P e)
    (hnote : ∀ old new, P new → P (noteDisplay old new)) (h : step s = .next t) (hs : P s.device) : P t.device := by
  rcases step_cases h with rfl | ⟨i, rest, e, _, htaken, ht⟩
  · exact hs
  · exact ht ▸ hnote _ _ (hP htaken hs)

theorem step_testSound (h : step s = .next t) (hs : TestSound s.device) : TestSound t.device :=
  step_keeps_invariant Taken.test (fun old new hn => by
    rw [testSound_iff] at hn ⊢
    exact noteDisplay_laws old new .test (by simp) _ hn) h hs

theorem step_linkSound (h : step s = .next t) (hs : LinkSound s.device) : LinkSound t.device :=
  step_keeps_invariant Taken.link (fun old new hn => by
    rw [linkSound_iff] at hn ⊢
    exact noteDisplay_laws old new .link (by simp) _ (by decide) hn) h hs

theorem step_loadSound (h : step s = .next t) (hs : LoadSound s.device) : LoadSound t.device :=
  step_keeps_invariant Taken.load (fun old new hn => by
    rw [loadSound_iff] at hn ⊢
    exact noteDisplay_laws old new .load (by simp) _ hn) h hs

theorem step_reasonsSound (h : step s = .next t) (hs : ReasonsSound s.device) : ReasonsSound t.device :=
  step_keeps_invariant Taken.reasons (fun old new hn => by
    rw [reasonsSound_iff] at hn ⊢
    exact noteDisplay_laws old new .reasons (by simp) _ hn) h hs

end

/-! ### The invariants -/

/-- Settles O12: the law of the account is kept by every event. -/
theorem accountStaysInRange : Obligations.AccountStaysInRange :=
  fun _ _ hsound h => step_kept h (l := .account) (by decide) hsound

/-- Settles O24: the laws of the used-code list and of the queue are kept by every event. -/
theorem codeStoresStaySound : Obligations.CodeStoresStaySound :=
  ⟨fun _ _ hsound h => step_kept h (l := .used) (by decide) hsound,
    fun _ _ hsound h => step_kept h (l := .queue) (by decide) hsound⟩

/-- Settles O27: power and relay are one law, kept by every event. -/
theorem relayStateFitsReasons : Obligations.RelayStateFitsReasons :=
  fun _ _ hpower hrelay h => step_kept h (l := .relay) (by decide) ⟨hpower, hrelay⟩

/-- Settles O32: whatever event changes what a reason depends on evaluates the reason again; a second tick, whose own
parts do so late, ends with it evaluated. -/
theorem reasonsFollowTheirOwners : Obligations.ReasonsFollowTheirOwners :=
  ⟨fun _ _ hsound h => step_reasonsSound h hsound, fun _ _ hsound h => step_loadSound h hsound⟩

/-- Settles O33: every event that closes the window or leaves mains ends the test, and a second tick its hour. -/
theorem testRunsOnlyUnderOpenWindow : Obligations.TestRunsOnlyUnderOpenWindow :=
  fun _ _ hsound h => step_testSound h hsound

/-- Settles O34: the law of the log, in which every latch's record is held, is kept by every event. -/
theorem logStaysSound : Obligations.LogStaysSound :=
  fun _ _ hsound h => step_kept h (l := .log) (by decide) hsound

/-- Settles O60: five laws, each on its own. -/
theorem everyRangeIsKept : Obligations.EveryRangeIsKept :=
  fun _ _ h =>
    ⟨step_kept h (l := .clock) (by decide), step_kept h (l := .tariffs) (by decide),
      step_kept h (l := .keypad) (by decide), step_linkSound h, step_kept h (l := .tamper) (by decide)⟩

/-! ### Spent issue numbers (R78, R83) -/

/-- The steps DUPLICATE and TOO_OLD of a check meet every spent number that is not exempt (R78). -/
theorem judgeFields_of_spent {f : CodeFields} {d : Device} (hclass : f.codeClass.val < 7)
    (hexempt : exemptCode f d.codes = false) (hspent : issueSpent f.issue d) :
    judgeFields f d = .duplicate ∨ judgeFields f d = .tooOld := by
  have h7 : f.codeClass ≠ 7 := fun h => by simp [h] at hclass
  unfold judgeFields
  rw [if_neg (by omega), if_neg h7]
  by_cases hlisted : d.codes.used.any (·.issue == f.issue) = true
  · exact .inl (by simp [hexempt, hlisted])
  · refine .inr ?_
    have hbelow : f.issue < d.codes.floor := hspent.resolve_right fun h => hlisted (by
      simpa [usedIssues, List.any_eq_true, List.mem_map] using h)
    simp [hexempt, hlisted, hbelow]

/-- A spent number stays spent through every event that brings no part into service (R83). -/
theorem Taken.spent {i : Instr} {d e : Device} (h : Taken i d e) (hentered : ¬ Entered d e) : Law.spent.kept d e := by
  cases h with
  | change h =>
    cases h with
    | ordinary laws | driving laws => exact laws .spent (by decide)
    | entering _ entered => exact absurd entered hentered
  | tick order _ h => exact h ▸ tick_laws order .spent (by decide)
  | checked c _ _ h => exact h ▸ completeCheck_laws c d .spent (by decide)
  | commissioned o _ _ hunc h =>
    obtain ⟨_, _, hpower, _⟩ := completeCommission_frame o d
    exact absurd ⟨.inl hunc, by rw [h, hpower]⟩ hentered

/-- Settles O23: the judgement by the steps of Table 4-4, the step by the law of spent numbers. -/
theorem spentIssueIsNeverAcceptedAgain : Obligations.SpentIssueIsNeverAcceptedAgain := by
  refine ⟨fun f d => judgeFields_of_spent, fun s t n hsound h hservice hspent => ?_⟩
  rcases step_cases h with rfl | ⟨i, rest, e, _, htaken, ht⟩
  · exact hspent
  · have hentered : ¬ Entered s.device e := by
      rintro ⟨hbefore, hafter⟩
      obtain ⟨hunc, hlost⟩ := hservice (by rw [ht, noteDisplay_power, hafter])
      exact hbefore.elim hunc hlost
    have hkept := Law.kept_trans (htaken.spent hentered) (noteDisplay_laws s.device e .spent (by simp))
    exact ht ▸ (hkept hsound).2 n hspent

/-! ### CLOSE_DRIVE (R120) -/

theorem Taken.driveSafe {i : Instr} {d e : Device} (h : Taken i d e) : DriveSafe d e := by
  have hsafe : Law.drive.kept d e → DriveSafe d e :=
    fun hkept _ hlow hraised => absurd (hlow.symm.trans (hkept hraised)) (by decide)
  cases h with
  | change h =>
    cases h with
    | ordinary laws | entering laws => exact hsafe (laws .drive (by decide))
    | driving _ safe => exact safe
  | tick order _ h => exact hsafe (h ▸ tick_laws order .drive (by decide))
  | checked c _ _ h => exact hsafe (h ▸ completeCheck_laws c d .drive (by decide))
  | commissioned o _ _ hunc h => exact hsafe (h ▸ completeCommission_laws hunc .drive (by decide))

/-- Settles O28: the events that raise CLOSE_DRIVE are a reconnection, a retry and RETRY_RELAY, each over an empty set. -/
theorem closeDriveNeedsEmptySet : Obligations.CloseDriveNeedsEmptySet := by
  intro s t _ hrelay h hlow hraised
  rcases step_cases h with rfl | ⟨i, rest, e, _, htaken, ht⟩
  · exact absurd (hlow.symm.trans hraised) (by decide)
  · have hframe := noteDisplay_keeps s.device e
    rw [ht] at hraised ⊢
    rw [hframe.relay, hframe.running]
    exact htaken.driveSafe hrelay hlow (by simpa only [closeDrive, hframe.relay] using hraised)

/-! ### Latches (R149) -/

theorem sourceEntry_unlatchAll {l : List Source} {x : Source} (hx : x ∉ l) (d : Device) :
    sourceEntry (l.foldl unlatchSource d) x = sourceEntry d x := by
  induction l generalizing d with
  | nil => rfl
  | cons y l ih =>
    simp only [List.mem_cons, not_or] at hx
    rw [List.foldl_cons, ih hx.2]
    unfold unlatchSource
    rw [sourceEntry_setSource_eq, if_neg hx.1]

/-- CLEAR_TAMPER leaves a source that its parameter does not name (R149). -/
theorem sourceEntry_clearTamper {p : Nat} {x : Source} (hx : x ∉ namedSources p) (d : Device) :
    sourceEntry (clearTamper p d) x = sourceEntry d x := by
  unfold clearTamper
  dsimp only
  split
  · rfl
  · generalize hl : (namedSources p).filter _ = l
    have hxl : x ∉ l := fun h => hx (List.mem_filter.mp (hl ▸ h)).1
    rw [sourceEntry, evaluateTamper_tamper, (raiseNotice_keeps _ _).tamper, (addRecord_keeps _ _).tamper]
    exact sourceEntry_unlatchAll hxl d

theorem mem_namedSources {p : Nat} {x : Source} (h : x ∈ namedSources p) : p = (sourceNumber x).val ∨ p = 99 := by
  unfold namedSources at h
  split at h
  · exact .inr ‹_›
  · refine .inl ?_
    obtain ⟨hp, rfl⟩ := List.getElem?_eq_some_iff.mp (Option.mem_toList.mp h)
    exact (numbered ⟨p, hp⟩).symm
where
  numbered : ∀ q : Fin allSources.length, (sourceNumber allSources[q]).val = q := by decide

/-- What an accepted code unlatches, a CLEAR_TAMPER names (R82, R149). -/
theorem acceptCode_latched {f : CodeFields} {d : Device} {x : Source} (h : (sourceEntry d x).latched = true)
    (hnamed : f.codeClass = 2 → x ∉ namedSources f.parameter) : (sourceEntry (acceptCode f d) x).latched = true := by
  have heffect : (sourceEntry (classEffect f d) x).latched = true := by
    by_cases h2 : f.codeClass = 2
    · have hclear : classEffect f d = clearTamper f.parameter d := by simp [classEffect, h2]
      rw [hclear, sourceEntry_clearTamper (hnamed h2)]
      exact h
    · exact latches_kept_classEffect (fun h => h2 (Fin.ext h)) x h
  unfold acceptCode
  dsimp only
  rw [(addRecord_keeps _ _).sourceEntry]
  split
  · exact heffect
  · rw [(listCode_keeps _ _).sourceEntry]
    exact heffect

/-- A check completion unlatches what an accepted CLEAR_TAMPER names. -/
theorem completeCheck_latched {c : QueuedCode} {d : Device} {x : Source} (h : (sourceEntry d x).latched = true)
    (hafter : (sourceEntry (completeCheck c d) x).latched = false) :
    ∃ f, judgeCode c.digits d = (.accepted, some f) ∧ f.codeClass = 2 ∧ x ∈ namedSources f.parameter := by
  have hjudged : (sourceEntry (judgedDevice c d) x).latched = false := by
    rw [completeCheck_eq, (startCheck_keeps _).sourceEntry, (reportOutcome_keeps _ _ _ _).sourceEntry] at hafter
    exact hafter
  rcases judgedDevice_cases c d with heq | ⟨f, hverdict, _, heq⟩ <;> rw [heq] at hjudged
  · exact absurd (h.symm.trans hjudged) (by decide)
  · refine ⟨f, hverdict, ?_⟩
    by_contra hnot
    have hlatched := acceptCode_latched (f := f) (d := d.setCodes { d.codes with inCheck := none }) h
      fun h2 hmem => hnot ⟨h2, hmem⟩
    exact absurd (hlatched.symm.trans hjudged) (by decide)

/-- Settles O31: the law of latches is kept by every event but a check completion. -/
theorem latchFallsOnlyByClearingCode : Obligations.LatchFallsOnlyByClearingCode := by
  intro s t x h hbefore hafter
  rcases step_cases h with rfl | ⟨i, rest, e, hpending, htaken, ht⟩
  · exact absurd (hbefore.symm.trans hafter) (by decide)
  rw [ht, sourceEntry_noteDisplay] at hafter
  have hbroken : ¬ Law.latches.kept s.device e :=
    fun hkept => absurd ((hkept x hbefore).symm.trans hafter) (by decide)
  cases htaken with
  | change hchange => exact absurd (hchange.kept (by decide)) hbroken
  | tick order _ he => exact absurd (he ▸ tick_laws order .latches (by decide)) hbroken
  | checked c hi hc he =>
    rw [he] at hafter
    obtain ⟨f, hverdict, h2, hnamed⟩ := completeCheck_latched hbefore hafter
    exact ⟨rest, c, f, hi ▸ hpending, hc, hverdict, h2, mem_namedSources hnamed⟩
  | commissioned o _ _ hunc he => exact absurd (he ▸ completeCommission_laws hunc .latches (by decide)) hbroken

/-! ### The One-Time Store (R184) -/

/-- An unwritten store is written by a COMMISSION completion alone. -/
theorem Taken.unwritten {i : Instr} {d e : Device} (h : Taken i d e) {o : OneTime} (hnone : d.oneTime = none)
    (hsome : e.oneTime = some o) :
    i = .commissionCompletion ∧ d.service.commissioning = some o ∧ d.power.part = .uncommissioned := by
  have hbroken : ¬ Law.unwritten.kept d e := fun hkept => by simp [hkept hnone] at hsome
  cases h with
  | change h => exact absurd (h.kept (by decide)) hbroken
  | tick order _ h => exact absurd (h ▸ tick_laws order .unwritten (by decide)) hbroken
  | checked c _ _ h => exact absurd (h ▸ completeCheck_laws c d .unwritten (by decide)) hbroken
  | commissioned store hi ho hunc h =>
    obtain ⟨_, hone, _⟩ := completeCommission_frame store d
    rw [h, hone] at hsome
    cases hsome
    exact ⟨hi, ho, hunc⟩

/-- Settles O48: the law of the store, and who writes an unwritten one. -/
theorem commissionWritesTheStoreOnce : Obligations.CommissionWritesTheStoreOnce := by
  intro s t hsound h
  obtain ⟨hstore, hstands⟩ := step_kept h (l := .store) (by decide) hsound
  refine ⟨hstore, hstands, fun o hnone hsome => ?_⟩
  rcases step_cases h with rfl | ⟨i, rest, e, hpending, htaken, ht⟩
  · simp [hnone] at hsome
  · obtain ⟨hi, hwritten⟩ := htaken.unwritten hnone (by rw [← hsome, ht, noteDisplay_oneTime])
    exact ⟨by rw [hpending, hi]; rfl, hwritten⟩

end Sys2Proof.Machine
end

section
/-! PROOFS. Rules for whole events, and the statements about single characters and the receivers. -/

namespace Sys2Proof.Machine

/-! ### Events that leave the display -/

/-- The parts of a change that no displayed field is read from (R98). -/
@[simp] theorem displayed_setLink (d : Device) (x : Link) : displayed (d.setLink x) = displayed d := rfl
@[simp] theorem displayed_setService (d : Device) (x : ServicePort) : displayed (d.setService x) = displayed d := rfl
@[simp] theorem displayed_setHost (d : Device) (x : HostPort) : displayed (d.setHost x) = displayed d := rfl

theorem noteDisplay_of_same {old new : Device} (h : displayed new = displayed old) : noteDisplay old new = new := by
  simp [noteDisplay, h]

section
variable {c : Instr} {s : State} {f : Device → Device} {e : Device}

/-- A command that leads to exactly one device, over which no displayed field changes. -/
theorem answers_exactly (hexec : exec c s = takeEvent s f) (hf : f s.device = e) (hsame : displayed e = displayed s.device) :
    answers c s fun d => d = e :=
  answers_of_takeEvent hexec (by rw [hf, noteDisplay_of_same hsame])

end

/-! ### The queue and reset -/

/-- Settles O1: by the two cases of the queue. -/
theorem stepTakesFrontCommand : Obligations.StepTakesFrontCommand := fun _ _ _ => ⟨rfl, rfl⟩

/-- Settles O2: the reset device is one concrete value. -/
theorem resetIsSound : Obligations.ResetIsSound := by
  refine ⟨rfl, ?_, ?_, ?_, ?_, ?_, ?_, ?_, ?_, ?_, ?_, ?_, ?_, ?_, ?_, ?_⟩
  · unfold PowerSound; decide
  · unfold ClockSound; decide
  · unfold AccountSound; decide
  · unfold TariffsSound; decide
  · unfold QueueSound; decide
  · unfold UsedSound; decide
  · unfold TestSound; decide
  · unfold KeypadSound; decide
  · unfold LinkSound; decide
  · unfold RelaySound; decide
  · unfold ReasonsSound; decide
  · unfold LoadSound; decide
  · unfold TamperSound; decide
  · unfold LogSound; decide
  · unfold StoreSound; decide

/-! ### Characters on a line (R93, R179) -/

/-- Parity is the exclusive or of the bits. -/
theorem oddOnes_iff (bits : List Bool) : oddOnes bits = true ↔ bits.count true % 2 = 1 := by
  have hfrom : ∀ acc, bits.foldl xor acc = (acc ^^ decide (bits.count true % 2 = 1)) := by
    induction bits with
    | nil => simp
    | cons b bits ih =>
      intro acc
      rw [List.foldl_cons, ih, Bool.xor_assoc]
      congr 1
      cases b with
      | false => simp
      | true =>
        rw [List.count_cons_self, Bool.true_xor, ← decide_not]
        exact decide_eq_decide.mpr (by omega)
  simp [oddOnes, hfrom]

/-- The number of a run of bits, the first of the lowest weight, has these bits. -/
theorem testBit_foldr_bits (bits : List Bool) (i : Nat) :
    (bits.foldr (fun (b : Bool) (n : Nat) => b.toNat + 2 * n) 0).testBit i = bits.getD i false := by
  induction bits generalizing i with
  | nil => simp
  | cons b bits ih =>
    rw [List.foldr_cons]
    cases i with
    | zero => cases b <;> simp [Nat.testBit_zero, Nat.add_mod]
    | succ i =>
      rw [List.getD_cons_succ, ← ih, Nat.testBit_succ]
      congr 1
      cases b <;> simp; omega

theorem carried_getLsbD (data : Vector Bool 8) (i : Fin 8) : (carried data).getLsbD i.val = data[i] := by
  rw [carried, BitVec.getLsbD_ofNat, testBit_foldr_bits, List.getD_eq_getElem _ _ (by simp)]
  simp

theorem judgeCharacter_framing {x : LineCharacter} (h : x.stopIdle = false) : judgeCharacter x = .damaged .framing := by
  simp [judgeCharacter, h]

theorem judgeCharacter_parity {x : LineCharacter} (h : x.stopIdle = true)
    (hodd : (x.data.toList ++ [x.parity]).count true % 2 = 1) : judgeCharacter x = .damaged .parity := by
  simp [judgeCharacter, h, (oddOnes_iff _).mpr hodd]

theorem judgeCharacter_good {x : LineCharacter} (h : x.stopIdle = true)
    (heven : (x.data.toList ++ [x.parity]).count true % 2 = 0) : judgeCharacter x = .good (carried x.data) := by
  have hnot : ¬ oddOnes (x.data.toList ++ [x.parity]) = true := by rw [oddOnes_iff]; omega
  simp [judgeCharacter, h, hnot]

/-- With their own parity beside them, bits hold an even number of ones. -/
theorem count_with_parity (bits : List Bool) : (bits ++ [oddOnes bits]).count true % 2 = 0 := by
  have hodd := oddOnes_iff bits
  rw [List.count_append]
  cases h : oddOnes bits with
  | false =>
    have hnot : ¬ bits.count true % 2 = 1 := fun hcount => by simp [hodd.mpr hcount] at h
    simp only [List.count_singleton, Bool.false_beq, Bool.not_true, Bool.false_eq_true, if_false]
    omega
  | true =>
    have hcount := hodd.mp h
    simp only [List.count_singleton, beq_self_eq_true, if_true]
    omega

theorem sentCharacter_even (c : Byte) :
    ((sentCharacter c).data.toList ++ [(sentCharacter c).parity]).count true % 2 = 0 := count_with_parity _

theorem carried_sentCharacter (c : Byte) : carried (sentCharacter c).data = c := by
  refine BitVec.eq_of_getLsbD_eq fun i hi => ?_
  rw [carried_getLsbD _ ⟨i, hi⟩]
  simp [sentCharacter, BitVec.getLsbD_eq_getElem hi]

/-- A damaged character at the running service port discards the frame being assembled (R179). -/
theorem answers_serviceDamaged {s : State} (hrun : running s.device = true) :
    answers .serviceDamagedCharacter s fun d =>
      d = s.device.setService { s.device.service with assembly := .hunting } :=
  answers_exactly rfl (if_pos hrun) rfl

/-- Settles O17: by the exclusive or of the bits, and the number they spell. -/
theorem charactersJudgedByTheirBits : Obligations.CharactersJudgedByTheirBits := by
  refine ⟨fun c => ⟨fun i => by simp [sentCharacter], rfl, sentCharacter_even c, ?_⟩, fun x => ⟨?_, ?_, ?_⟩,
    fun s x hrun => ⟨fun hstop => ?_, fun hdamaged => ?_⟩⟩
  · rw [judgeCharacter_good rfl (sentCharacter_even c), carried_sentCharacter]
  · exact judgeCharacter_framing
  · exact judgeCharacter_parity
  · exact fun hstop heven => ⟨_, judgeCharacter_good hstop heven, carried_getLsbD x.data⟩
  · rw [linkTakes, judgeCharacter_framing hstop]
    exact answers_exactly rfl (if_pos hrun) rfl
  · have htakes : serviceTakes x = .serviceDamagedCharacter := by
      cases hstop : x.stopIdle with
      | false => rw [serviceTakes, judgeCharacter_framing hstop]
      | true =>
        have hodd := hdamaged.resolve_left (by simp [hstop])
        rw [serviceTakes, judgeCharacter_parity hstop hodd]
    rw [htakes]
    exact answers_serviceDamaged hrun

/-! ### The receivers (Table 5-1) -/

theorem receive_more {c kind length : Byte} {held : List Byte} (h : held.length < length.toNat) :
    receive c (.assembling (kind :: length :: held)) = (.assembling (kind :: length :: (held ++ [c])), .nothing) := by
  simp only [receive, if_pos h]

section
variable {d : Device} (hrun : running d = true) {c kind : Byte} {a : Assembly} {payload : List Byte}
include hrun

theorem linkCharacter_nothing (h : receive c d.link.assembly = (a, .nothing)) :
    linkCharacter c d = d.setLink { d.link with assembly := a } := by
  simp only [linkCharacter, hrun, h, if_true]

theorem linkCharacter_frame (h : receive c d.link.assembly = (a, .frame kind payload)) :
    linkCharacter c d = frameAction kind payload (frameSeen d) := by
  simp only [linkCharacter, hrun, h, if_true]

theorem serviceCharacter_nothing (h : receive c d.service.assembly = (a, .nothing)) :
    serviceCharacter c d = d.setService { d.service with assembly := a } := by
  simp only [serviceCharacter, hrun, h, if_true]

theorem serviceCharacter_frame (h : receive c d.service.assembly = (a, .frame kind payload)) :
    serviceCharacter c d = serviceFrame kind payload (huntService d) := by
  simp only [serviceCharacter, hrun, h, if_true]

end

/-- A good character that ends no frame on the running link moves its assembly. -/
theorem answers_linkCharacter {s : State} (hrun : running s.device = true) {c : Byte} {a : Assembly}
    (h : receive c s.device.link.assembly = (a, .nothing)) :
    answers (.linkGoodCharacter c) s fun d => d = s.device.setLink { s.device.link with assembly := a } :=
  answers_exactly rfl (linkCharacter_nothing hrun h) rfl

/-- A good character that ends no frame at the running service port moves its assembly. -/
theorem answers_serviceCharacter {s : State} (hrun : running s.device = true) {c : Byte} {a : Assembly}
    (h : receive c s.device.service.assembly = (a, .nothing)
      ∨ receive c s.device.service.assembly = (a, .bad) ∧ a = .hunting) :
    answers (.serviceGoodCharacter c) s fun d => d = s.device.setService { s.device.service with assembly := a } := by
  rcases h with h | ⟨h, rfl⟩
  · exact answers_exactly rfl (serviceCharacter_nothing hrun h) rfl
  · exact answers_exactly rfl (by simp only [serviceCharacter, hrun, h, if_true]; rfl) rfl

theorem receive_length_long {c kind : Byte} (h : ¬ c.toNat ≤ 64) : receive c (.assembling [kind]) = (.hunting, .bad) :=
  if_neg h

theorem receive_length {c kind : Byte} (h : c.toNat ≤ 64) :
    receive c (.assembling [kind]) = (.assembling [kind, c], .nothing) := if_pos h

/-- Settles O18: row by row of Table 5-1, at both receivers. -/
theorem charactersMoveTheAssembly : Obligations.CharactersMoveTheAssembly := by
  refine ⟨fun s hrun => ⟨?_, ?_, fun hassembling => ?_, ?_⟩,
    fun s c kind length held hrun => ⟨?_, ?_, ?_, ?_, ?_, ?_, ?_, ?_⟩⟩
  · exact answers_exactly rfl (if_pos hrun) rfl
  · exact answers_exactly rfl (if_pos hrun) rfl
  · exact answers_exactly rfl (if_pos ⟨hrun, hassembling⟩) rfl
  · exact answers_exactly rfl (if_pos hrun) rfl
  · exact fun h => answers_linkCharacter hrun (by rw [h]; rfl)
  · exact fun h => answers_linkCharacter hrun (by rw [h]; rfl)
  · intro h
    split
    case isTrue hfits => exact answers_linkCharacter hrun (by rw [h, receive_length hfits])
    case isFalse hlong =>
      refine answers_exactly rfl ?_ rfl
      simp only [linkCharacter, hrun, h, receive_length_long hlong, if_true]
      rfl
  · exact fun h hmore => answers_linkCharacter hrun (by rw [h, receive_more hmore])
  · exact fun h => answers_serviceCharacter hrun (.inl (by rw [h]; rfl))
  · exact fun h => answers_serviceCharacter hrun (.inl (by rw [h]; rfl))
  · intro h
    split
    case isTrue hfits => exact answers_serviceCharacter hrun (.inl (by rw [h, receive_length hfits]))
    case isFalse hlong => exact answers_serviceCharacter hrun (.inr ⟨by rw [h, receive_length_long hlong], rfl⟩)
  · exact fun h hmore => answers_serviceCharacter hrun (.inl (by rw [h, receive_more hmore]))

/-! ### Filter edges and meter tests (R1, R2, R17) -/

/-- Settles O3: each edge is one update of the intake, and under a meter test an arrival is its test routing. -/
theorem filterAndTestEdgesChargeNothing : Obligations.FilterAndTestEdgesChargeNothing := by
  refine ⟨fun s p => ⟨answers_exactly rfl rfl rfl, fun hrun hwaiting hlow => ?_, fun hwaiting => ?_⟩,
    fun s p openFirst hrun harmed htest hpart => ⟨?_, ?_⟩⟩
  · exact answers_exactly rfl (if_pos ⟨hrun, hwaiting, hlow⟩) rfl
  · refine answers_exactly (f := fun d => if running d ∧ d.intake.filters[p] = .armed then d else setPulseLine p .high d)
      rfl (if_neg ?_) rfl
    rw [hwaiting]
    exact fun h => absurd h.2 (by decide)
  all_goals
    refine answers_exactly rfl ?_ rfl
    exact (if_pos ⟨hrun, harmed⟩).trans (if_pos ⟨hpart, htest⟩)

end Sys2Proof.Machine
end

section
/-! PROOFS. The customer link: the keys, the PRESENCE and the other frames, and the STATUS frames. -/

namespace Sys2Proof.Machine

/-! ### A detection's entry (R146) -/

/-- The entry of a source after a detection of it: counted alone where the window exempts it or it is latched already. -/
def detectedEntry (x : Source) (d : Device) : SourceEntry :=
  if exempted x d = true ∨ (sourceEntry d x).latched = true then
    { sourceEntry d x with count := raiseCount (sourceEntry d x).count }
  else latchedEntry x d

theorem detectedEntry_count (x : Source) (d : Device) :
    (detectedEntry x d).count = raiseCount (sourceEntry d x).count := by
  unfold detectedEntry
  split <;> rfl

theorem detectedEntry_action (x : Source) (d : Device) : (detectedEntry x d).action = (sourceEntry d x).action := by
  unfold detectedEntry
  split <;> rfl

theorem detectedEntry_latched {x : Source} {d : Device} (h : exempted x d = false) :
    (detectedEntry x d).latched = true := by
  unfold detectedEntry
  split
  case isTrue hcounted => exact hcounted.resolve_left (by simp [h])
  case isFalse => rfl

/-- A detection moves the entry of its source alone (R146). -/
theorem sourceEntry_detect (x : Source) (detail : Option Byte) (d : Device) (y : Source) :
    sourceEntry (detect x detail d) y = if y = x then detectedEntry x d else sourceEntry d y := by
  unfold detect detectedEntry
  dsimp only
  cases hexempt : exempted x d with
  | true =>
    simp only [if_true, true_or]
    rw [(addRecord_keeps _ _).sourceEntry, sourceEntry_setSource_eq]
  | false =>
    rw [if_neg Bool.false_ne_true]
    simp only [Bool.false_eq_true, false_or]
    split
    · rw [sourceEntry_setSource_eq]
    · rw [latchSource_eq, (evaluateTamper_keeps _).sourceEntry, (raiseNotice_keeps _ _).sourceEntry,
        sourceEntry_setSource_eq, (addRecord_keeps _ _).sourceEntry]

/-! ### Frames that end on the link -/

/-- A ready frame acts on the part whose link has taken it (R95, R97, R100). -/
theorem linkArrival_ready {kind : Byte} {payload : List Byte} {act : Device → Device} {d : Device}
    (h : linkReady kind payload d) : linkArrival kind payload act d = act (frameSeen d) := by
  obtain ⟨hrun, hadmits⟩ := h
  simp [linkArrival, hrun, hadmits]

/-- The part as a key finds it. -/
def keyTaken (d : Device) : Device := (frameSeen d).setKeypad (keyed d.keypad)

theorem keyTaken_keeps (d : Device) : keepsBut [.keypad, .link] d (keyTaken d) :=
  keepsBut_comp (setLink_keeps d _) (setKeypad_keeps _ _)

/-- A key that acts on blocks other than the link. -/
theorem answers_key {c : Instr} {s : State} {payload : List Byte} {act : Device → Device} {bs l : List Block}
    {after : Device → Prop} (hexec : exec c s = takeEvent s (linkArrival 0x10 payload (keyArrival act)))
    (hready : linkReady 0x10 payload s.device)
    (hframe : keepsBut bs (keyTaken s.device) (act (keyTaken s.device))) (hlink : .link ∉ bs) (hbs : bs ⊆ l)
    (hl : [.keypad, .link] ⊆ l)
    (hafter : ∀ d, d = noteDisplay s.device (act (keyTaken s.device)) →
      linkBody d.link = linkBody (linkAfter s.device.link) → keepsBut l s.device d → after d) : answers c s after := by
  refine answers_of_takeEvent hexec ?_
  rw [linkArrival_ready hready]
  refine hafter _ rfl ?_ ?_
  · exact ((noteDisplay_keeps _ _).linkBody).trans (hframe.linkBody hlink)
  · exact keepsBut_noteDisplay (keepsBut_comp (keyTaken_keeps s.device) hframe hl hbs)

/-! ### The keys -/

theorem digitAction_room {g : Digit} {d : Device} (h : d.keypad.buffer.length < 24) :
    digitAction g d = d.setKeypad { d.keypad with buffer := d.keypad.buffer ++ [g], stepTimer := 0 } := if_pos h

theorem digitAction_full {g : Digit} {d : Device} (h : 24 ≤ d.keypad.buffer.length) :
    digitAction g d = d.setKeypad { d.keypad with outcome := some (.full, .entry), stepTimer := 0 } :=
  if_neg (Nat.not_lt.mpr h)

theorem digitAction_keeps (g : Digit) (d : Device) : keepsBut [.keypad] d (digitAction g d) := by
  unfold digitAction
  split <;> exact setKeypad_keeps _ _

/-- Settles O14: both keys are one update of Keypad Entry. -/
theorem digitAndBackEditTheBuffer : Obligations.DigitAndBackEditTheBuffer := by
  refine fun s => ⟨fun g hready => ?_, fun hready => ?_⟩
  · refine answers_key (act := digitAction g) rfl hready (digitAction_keeps g _) (by decide) (by decide) (List.Subset.refl _) ?_
    rintro d rfl hlink hframe
    refine ⟨fun hroom => ?_, fun hfull => ?_, hlink, hframe⟩
    · rw [noteDisplay_keypad, digitAction_room (d := keyTaken s.device) hroom]; rfl
    · rw [noteDisplay_keypad, digitAction_full (d := keyTaken s.device) hfull]; rfl
  · refine answers_key (act := backAction) rfl hready (setKeypad_keeps _ _) (by decide) (by decide) (List.Subset.refl _) ?_
    rintro d rfl hlink hframe
    exact ⟨noteDisplay_keypad _ _, hlink, hframe⟩

/-! ### ENTER with the step DISARMED (R71, R104) -/

/-- A code is handed over as KEYPAD unless one waits or is in check, or the queue is full (R71). -/
theorem keypadAnswer_queued {c : Codes} (hfree : ∀ q ∈ waitingCodes c, q.source ≠ .keypad) (hroom : c.queue.length < 4) :
    keypadAnswer c = .queued := by
  have hnot : keypadBusy c = false := by
    rw [keypadBusy_eq, List.any_eq_false]
    simpa using hfree
  simp only [keypadAnswer, hnot, Bool.false_eq_true, if_false]
  exact if_neg (Nat.not_le.mpr hroom)

theorem keypadAnswer_full {c : Codes} (hfree : ∀ q ∈ waitingCodes c, q.source ≠ .keypad) (hfull : 4 ≤ c.queue.length) :
    keypadAnswer c = .queueFull := by
  have hnot : keypadBusy c = false := by
    rw [keypadBusy_eq, List.any_eq_false]
    simpa using hfree
  simp only [keypadAnswer, hnot, Bool.false_eq_true, if_false]
  exact if_pos hfull

theorem keypadAnswer_busy {c : Codes} (hbusy : ∃ q ∈ waitingCodes c, q.source = .keypad) : keypadAnswer c = .busy := by
  have hany : keypadBusy c = true := by
    rw [keypadBusy_eq, List.any_eq_true]
    simpa using hbusy
  simp [keypadAnswer, hany]

/-- A refused entry is emptied and shown, and leaves the Code Checker (R71, R104). -/
theorem enterCode_refused {d : Device} {r : Result} (h : keypadAnswer d.codes = r) (hr : r ≠ .queued) :
    enterCode d = d.setKeypad { d.keypad with buffer := [], outcome := some (r, .code) } := by
  subst h
  simp [enterCode, submitKeypad, hr]

theorem enterCode_queued {d : Device} (h : keypadAnswer d.codes = .queued) :
    enterCode d = (enqueueCode .keypad d.keypad.buffer d).setKeypad { d.keypad with buffer := [] } := by
  simp [enterCode, submitKeypad, h]

theorem enterCode_keeps (d : Device) : keepsBut [.keypad, .codes] d (enterCode d) :=
  keepsBut_comp (submitKeypad_keeps _ d) (setKeypad_keeps _ _)

section
variable {d : Device} (hstep : d.keypad.stepTimer = 0)
include hstep

theorem enterAction_empty (h : d.keypad.buffer = []) : enterAction d = d := by
  simp [enterAction, hstep, h, Config.codeDigits]

theorem enterAction_short (hsome : 0 < d.keypad.buffer.length) (hshort : d.keypad.buffer.length < 24) :
    enterAction d = d.setKeypad { d.keypad with buffer := [], outcome := some (.short, .entry) } := by
  have hne : d.keypad.buffer ≠ [] := List.ne_nil_of_length_pos hsome
  have hnot : d.keypad.buffer.length ≠ Config.codeDigits := hshort.ne
  simp only [enterAction, hstep, Nat.lt_irrefl, if_false, if_neg hne, if_neg hnot]

theorem enterAction_lockedOut (hfull : d.keypad.buffer.length = 24) (hlock : 0 < d.keypad.lockout) :
    enterAction d = d.setKeypad { d.keypad with buffer := [], outcome := some (.lockedOut, .entry) } := by
  have hdigits : d.keypad.buffer.length = Config.codeDigits := hfull
  simp only [enterAction, hstep, Nat.lt_irrefl, if_false, if_pos hdigits, if_pos hlock]

theorem enterAction_code (hfull : d.keypad.buffer.length = 24) (hlock : d.keypad.lockout = 0) :
    enterAction d = enterCode d := by
  have hdigits : d.keypad.buffer.length = Config.codeDigits := hfull
  simp only [enterAction, hstep, Nat.lt_irrefl, if_false, if_pos hdigits, hlock]

theorem enterAction_keeps : keepsBut [.keypad, .codes] d (enterAction d) := by
  unfold enterAction
  rw [if_neg (by omega)]
  split
  · split
    · exact keepsBut_mono (setKeypad_keeps _ _) (by decide)
    · exact enterCode_keeps d
  · split
    · exact keepsBut_refl _ _
    · exact keepsBut_mono (setKeypad_keeps _ _) (by decide)

end

/-- Settles O15: row by row of Table 5-4 with the step DISARMED, and the answers of R71. -/
theorem enterSubmitsOrRefuses : Obligations.EnterSubmitsOrRefuses := by
  intro s hready hdisarmed k waiting
  have hstep : (keyTaken s.device).keypad.stepTimer = 0 := hdisarmed
  refine answers_key (act := enterAction) (l := [.keypad, .link, .codes]) rfl hready (enterAction_keeps hstep) (by decide)
    (by decide) (by decide) ?_
  rintro d rfl hlink hframe
  rw [noteDisplay_keypad, noteDisplay_codes]
  refine ⟨hframe, hlink, fun hempty => ?_, fun hsome hshort => ?_, fun hfull hlock => ?_, fun hfull hlock => ?_⟩
  · rw [enterAction_empty hstep hempty]
    exact ⟨rfl, rfl⟩
  · rw [enterAction_short hstep hsome hshort]
    exact ⟨rfl, rfl⟩
  · rw [enterAction_lockedOut hstep hfull hlock]
    exact ⟨rfl, rfl⟩
  rw [enterAction_code hstep hfull hlock]
  have hcodes : (keyTaken s.device).codes = s.device.codes := rfl
  refine ⟨fun hbusy => ?_, fun hfree hfull => ?_, fun hfree hroom => ?_⟩
  · rw [enterCode_refused (keypadAnswer_busy (c := (keyTaken s.device).codes) hbusy) (by decide)]
    exact ⟨rfl, rfl⟩
  · rw [enterCode_refused (keypadAnswer_full (c := (keyTaken s.device).codes) hfree hfull) (by decide)]
    exact ⟨rfl, rfl⟩
  · rw [enterCode_queued (keypadAnswer_queued (c := (keyTaken s.device).codes) hfree hroom)]
    exact ⟨rfl, (enqueueCode_codes .keypad s.device.keypad.buffer (keyTaken s.device)).1⟩

/-! ### ENTER with the step ARMED, and the other keys (R33, R105, R106) -/

/-- Table 2-5 ends at ACCEPTED exactly where emergency credit is available (R33, R34). -/
theorem emergencyOutcome_accepted_iff {d : Device} (hpart : d.power.part ≠ .initializing) :
    emergencyOutcome d = .accepted ↔ emergencyAvailable d = true := by
  cases hp : d.power.part with
  | initializing => exact absurd hp hpart
  | uncommissioned => simp [emergencyOutcome, emergencyAvailable, hp]
  | accountLost => simp [emergencyOutcome, emergencyAvailable, hp]
  | inService =>
    simp only [emergencyOutcome, emergencyAvailable, hp]
    by_cases hamount : d.settings.emergencyAmount = 0
    · simp [hamount]
    by_cases htaken : 0 < d.account.emergency
    · simp [hamount, htaken, htaken.ne']
    by_cases hneeded : (d.settings.emergencyThreshold : Int) ≤ d.account.balance
    · simp [hamount, htaken, hneeded]
    · simp only [hamount, htaken, hneeded, if_false]
      simp
      omega

theorem enterAction_armed {d : Device} (h : 0 < d.keypad.stepTimer) : enterAction d = enterEmergency d := if_pos h

theorem enterEmergency_keypad (d : Device) :
    (enterEmergency d).keypad = { d.keypad with stepTimer := 0, outcome := some (emergencyOutcome d, .emergency) } := by
  unfold enterEmergency
  dsimp only
  split
  · rw [← (emergencyTake_keeps d).keypad]; rfl
  · rfl

theorem enterEmergency_keeps (d : Device) : keepsBut [.account, .relay, .log, .host, .keypad] d (enterEmergency d) := by
  unfold enterEmergency
  dsimp only
  split
  · exact keepsBut_comp (emergencyTake_keeps d) (setKeypad_keeps _ _)
  · exact keepsBut_mono (setKeypad_keeps _ _) (by decide)

theorem running_part {d : Device} (h : running d = true) : d.power.part ≠ .initializing := by
  intro hp
  simp [running, hp] at h

theorem reconnectPress_relay_other {d : Device} (h : d.relay.state ≠ .reconnectReady) : reconnectPress d = d := if_neg h

theorem reconnectPress_relay_ready {d : Device} (h : d.relay.state = .reconnectReady) :
    reconnectPress d = startAttempt .closed false d := if_pos h

theorem emergencyAction_keeps (d : Device) : keepsBut [.keypad] d (emergencyAction d) := by
  unfold emergencyAction
  split
  · exact setKeypad_keeps _ _
  · exact keepsBut_refl _ _

/-- The link and Keypad Entry take no part in whether emergency credit is offered. -/
theorem answers_enterArmed {s : State} (hready : linkReady 0x10 [0x0B] s.device) (harmed : 0 < s.device.keypad.stepTimer) :
    answers .enterKey s fun d =>
      d.keypad = { keyed s.device.keypad with stepTimer := 0, outcome := some (emergencyOutcome s.device, .emergency) }
        ∧ (emergencyOutcome s.device = .accepted ↔ emergencyAvailable s.device = true)
        ∧ (emergencyAvailable s.device = true →
            d.account.balance = s.device.account.balance + s.device.settings.emergencyAmount
              ∧ d.account.emergency = s.device.settings.emergencyAmount
              ∧ d.account.debt = s.device.account.debt)
        ∧ (emergencyAvailable s.device = false → keepsBut [.keypad, .link] s.device d)
        ∧ linkBody d.link = linkBody (linkAfter s.device.link)
        ∧ keepsBut [.keypad, .link, .account, .relay, .log, .host] s.device d := by
  have hact : enterAction (keyTaken s.device) = enterEmergency (keyTaken s.device) := enterAction_armed harmed
  have houtcome : emergencyOutcome (keyTaken s.device) = emergencyOutcome s.device := rfl
  have hiff := emergencyOutcome_accepted_iff (running_part hready.1)
  refine answers_key (act := enterAction) (l := [.keypad, .link, .account, .relay, .log, .host]) rfl hready
    (hact ▸ enterEmergency_keeps _) (by decide) (by decide) (by decide) ?_
  rintro d rfl hlink hframe
  rw [hact] at hlink hframe ⊢
  rw [noteDisplay_keypad, enterEmergency_keypad, houtcome]
  refine ⟨rfl, hiff, fun havailable => ?_, fun hunavailable => ?_, hlink, hframe⟩
  · have haccount : (enterEmergency (keyTaken s.device)).account = (emergencyTake (keyTaken s.device)).account := by
      simp only [enterEmergency, houtcome, hiff.mpr havailable, if_true]
      rfl
    rw [noteDisplay_account, haccount, emergencyTake_account]
    exact ⟨rfl, rfl, rfl⟩
  · have hrefused : emergencyOutcome (keyTaken s.device) ≠ .accepted := fun h => by
      simp [hiff.mp h] at hunavailable
    have hleft : keepsBut [.keypad] (keyTaken s.device) (enterEmergency (keyTaken s.device)) := by
      simp only [enterEmergency, if_neg hrefused]
      exact setKeypad_keeps _ _
    exact keepsBut_noteDisplay (keepsBut_comp (keyTaken_keeps s.device) hleft)

/-- Settles O13: ENTER with the step ARMED, and the three keys that act on one block. -/
theorem keysBesideDigitsAct : Obligations.KeysBesideDigitsAct := by
  refine ⟨fun s => answers_enterArmed, fun s => ⟨fun hready => ?_, fun hready => ?_, fun hready => ?_⟩⟩
  · refine answers_key (act := emergencyAction) rfl hready (emergencyAction_keeps _) (by decide) (by decide)
      (List.Subset.refl _) ?_
    rintro d rfl hlink hframe
    refine ⟨?_, hlink, hframe⟩
    rw [noteDisplay_keypad]
    exact apply_ite Device.keypad ((keyed s.device.keypad).buffer = []) _ _
  · refine answers_key (act := infoAction) rfl hready (setKeypad_keeps _ _) (by decide) (by decide)
      (List.Subset.refl _) ?_
    rintro d rfl hlink hframe
    exact ⟨noteDisplay_keypad _ _, hlink, hframe⟩
  · refine answers_key (act := reconnectPress) (l := [.keypad, .link, .relay]) rfl hready (reconnectPress_keeps _) (by decide)
      (by decide) (by decide) ?_
    rintro d rfl hlink hframe
    refine ⟨?_, hlink, hframe, fun hother => ?_, fun hreconnect => ?_⟩
    · rw [noteDisplay_keypad]
      exact (reconnectPress_keeps (keyTaken s.device)).keypad
    · rw [noteDisplay_relay, reconnectPress_relay_other (d := keyTaken s.device) hother]
      rfl
    · rw [noteDisplay_relay, reconnectPress_relay_ready (d := keyTaken s.device) hreconnect]
      rfl

end Sys2Proof.Machine
end

section
/-! PROOFS. Frames: presence and other frames, the STATUS frames, frames taken by their characters, and the commands that
encoded frames spell. -/

namespace Sys2Proof.Machine

/-! ### PRESENCE and other frames (R97, R101) -/

/-- Only CASE and TERMINAL_COVER are ever exempt (R146). -/
theorem exempted_other {x : Source} (h : x ≠ .case ∧ x ≠ .terminalCover) (d : Device) : exempted x d = false := by
  simp [exempted, h]

/-- A well-formed frame that is not the CIU's own kind and form acts on nothing (R97, R191). -/
theorem frameAction_other {kind : Byte} {payload : List Byte} (h : ownLinkFrame kind payload = false) :
    frameAction kind payload = id := by
  unfold frameAction
  split
  case h_1 key =>
    split
    case isTrue hkind =>
      have hbeyond : ¬ key.toNat ≤ 0x0E := by simpa [ownLinkFrame, hkind] using h
      unfold keyAction
      rw [dif_neg (by omega), if_neg, if_neg, if_neg, if_neg, if_neg]
      all_goals (rintro rfl; exact hbeyond (by decide))
    case isFalse => rfl
  case h_2 ciuCase version =>
    have hbeyond : kind = Config.kindPresence → ¬ ciuCase.toNat ≤ 1 := by
      intro hkind
      simpa [ownLinkFrame, hkind] using h
    rw [if_neg, if_neg]
    all_goals (rintro ⟨hkind, rfl⟩; exact hbeyond hkind (by decide))
  case h_3 => rfl

/-- The part after a PRESENCE frame, before any detection. -/
def presenceStored (caseOpen : Bool) (version : Byte) (d : Device) : Device :=
  d.setLink
    { linkAfter d.link with ciuVersion := some version, ciuCase := if caseOpen then .open else .closed }

theorem presenceStored_keeps (caseOpen : Bool) (version : Byte) (d : Device) :
    keepsBut [.link] d (presenceStored caseOpen version d) := setLink_keeps _ _

theorem presenceAction_frameSeen (caseOpen : Bool) (version : Byte) (d : Device) :
    presenceAction caseOpen version (frameSeen d)
      = if caseOpen = true ∧ d.link.ciuCase = .closed then detect .ciuCase none (presenceStored caseOpen version d)
        else presenceStored caseOpen version d := rfl

theorem exec_presenceFrame {s : State} {caseOpen : Bool} {version : Byte}
    (hready : linkReady 0x11 [if caseOpen then 0x01 else 0x00, version] s.device) :
    exec (.presenceFrame caseOpen version) s
      = takeEvent s fun _ => presenceAction caseOpen version (frameSeen s.device) := by
  rw [takeEvent_eq, ← linkArrival_ready (act := presenceAction caseOpen version) hready]
  rfl

/-- Settles O16: a PRESENCE frame is one update of the link, with a detection where the case opens; another frame is one
update of the link. -/
theorem presenceAndOtherFrames : Obligations.PresenceAndOtherFrames := by
  refine fun s => ⟨fun caseOpen v hready => ?_, fun kind payload hwell hready => ?_⟩
  · refine answers_of_takeEvent (exec_presenceFrame hready) ?_
    rw [presenceAction_frameSeen]
    have hstored := presenceStored_keeps caseOpen v s.device
    split
    case isTrue hopened =>
      have hdetected := detect_keeps .ciuCase none (presenceStored caseOpen v s.device)
      refine ⟨((noteDisplay_keeps s.device _).linkBody).trans hdetected.linkBody, fun hnot => absurd hopened hnot,
        fun _ _ => ⟨?_, ?_, keepsBut_noteDisplay (keepsBut_comp hstored hdetected)⟩⟩
      · rw [sourceEntry_noteDisplay, sourceEntry_detect, if_pos rfl]
        exact detectedEntry_latched (exempted_other (by decide) _)
      · rw [sourceEntry_noteDisplay, sourceEntry_detect, if_pos rfl, detectedEntry_count, hstored.sourceEntry]
    case isFalse hnot =>
      rw [noteDisplay_of_same (show displayed (presenceStored caseOpen v s.device) = displayed s.device from rfl)]
      exact ⟨rfl, fun _ => hstored, fun hopen hclosed => absurd ⟨hopen, hclosed⟩ hnot⟩
  · have hother : ownLinkFrame kind payload = false := by
      have hboth : (decide (payload.length ≤ Config.framePayload) && !ownLinkFrame kind payload) = true := hwell
      simpa using (Bool.and_eq_true_iff.mp hboth).2
    refine answers_exactly (c := .linkOtherFrame kind payload) rfl ?_ rfl
    rw [linkArrival_ready hready, frameAction_other hother]
    rfl

/-! ### STATUS frames (R98, R99) -/

/-- A step over which a displayed field changes notes that a STATUS frame is due (R99, case 2). -/
theorem noteDisplay_statusDue {old new : Device} (hold : running old = true) (hnew : running new = true)
    (h : displayed new ≠ displayed old) : (noteDisplay old new).link.statusDue = true := by
  simp [noteDisplay, hold, hnew, Ne.symm h]

theorem displayed_noteDisplay (old new : Device) : displayed (noteDisplay old new) = displayed new := by
  unfold noteDisplay
  split <;> rfl

/-- Settles O19: the three commands are one update of the link, and every event notes a displayed change. -/
theorem statusFramesFollowChanges : Obligations.StatusFramesFollowChanges := by
  refine ⟨fun s hrun => ⟨fun hidle hdue => ?_, fun hidle hperiod => ?_, fun hsending hdue => ?_, fun hsending hdue => ?_⟩,
    fun s t h hs ht hchange => ?_⟩
  · exact answers_exactly rfl (if_pos ⟨hrun, hdue, hidle⟩) rfl
  · exact answers_exactly rfl (if_pos ⟨hrun, hperiod, hidle⟩) rfl
  · refine answers_exactly rfl ((if_pos ⟨hrun, hsending⟩).trans (if_pos hdue)) rfl
  · refine answers_exactly rfl ((if_pos ⟨hrun, hsending⟩).trans (if_neg ?_)) rfl
    simp [hdue]
  · rcases step_cases h with rfl | ⟨i, rest, e, _, _, hnoted⟩
    · exact absurd rfl hchange
    · rw [hnoted] at ht hchange ⊢
      rw [displayed_noteDisplay] at hchange
      rw [(noteDisplay_keeps s.device e).running] at ht
      exact noteDisplay_statusDue hs ht hchange

/-! ### Frames (R163, R191) -/

/-- A run of bytes and its check byte sum to 0 modulo 256. -/
theorem sumsToZero_check (bytes : List Byte) : sumsToZero (bytes ++ [checkByte bytes]) = true := by
  simp [sumsToZero, checkByte, List.foldl_append]

theorem toNat_ofNat_length {n top : Nat} (h : n ≤ top) (htop : top ≤ 255) : (BitVec.ofNat 8 n).toNat = n := by
  rw [BitVec.toNat_ofNat]
  omega

/-- The characters of a frame spell its kind and payload. -/
theorem frameOf_characterFrame {kind : Byte} {payload : List Byte} (h : payload.length ≤ 64) :
    frameOf (characterFrame kind payload) = some (kind, payload) := by
  have hlength := toNat_ofNat_length h (by decide)
  have hsum := sumsToZero_check (kind :: BitVec.ofNat 8 payload.length :: payload)
  unfold characterFrame
  dsimp only [List.cons_append]
  unfold frameOf
  dsimp only
  rw [if_pos, List.dropLast_concat]
  exact ⟨rfl, hlength.le.trans h, by rw [hlength]; simp, hsum⟩

/-- The bytes of a request frame spell the request of its code (R163). -/
theorem hostCommand_requestFrame {code : Byte} {p : List Byte} (h : p.length ≤ Config.hostParameters) :
    hostCommand (requestFrame code p) = some (hostRequest code p) := by
  have hlength := toNat_ofNat_length h (by decide)
  have hsum := sumsToZero_check (code :: BitVec.ofNat 8 p.length :: p)
  have hwell : wellFormedRequest (requestFrame code p) = true := by
    unfold requestFrame wellFormedRequest
    dsimp only [List.cons_append]
    rw [hlength]
    simp only [Bool.and_eq_true, decide_eq_true_eq, List.length_append, List.length_singleton]
    exact ⟨⟨h, trivial⟩, hsum⟩
  unfold hostCommand
  unfold requestFrame at hwell ⊢
  dsimp only [List.cons_append] at hwell ⊢
  rw [if_pos hwell]
  simp

/-- A request's code and parameters spell it. -/
theorem hostRequest_hostParts {i : Instr} {code : Byte} {p : List Byte} (h : hostParts i = some (code, p)) :
    hostRequest code p = i := by
  unfold hostParts at h
  split at h <;> cases h <;> rfl

theorem hostParts_length {i : Instr} {code : Byte} {p : List Byte} (hwell : wellFormed i = true)
    (h : hostParts i = some (code, p)) : p.length ≤ Config.hostParameters := by
  unfold hostParts at h
  split at h <;> cases h <;> exact of_decide_eq_true hwell

theorem serviceParts_length {i : Instr} {code : Byte} {p : List Byte} (hwell : wellFormed i = true)
    (h : serviceParts i = some (code, p)) : p.length ≤ 64 := by
  unfold serviceParts at h
  split at h <;> cases h
  case h_28 =>
    exact of_decide_eq_true (Bool.and_eq_true_iff.mp (show (_ && _) = true from hwell)).1
  all_goals exact of_decide_eq_true hwell

/-- A code of no request spells none (R180). -/
theorem serviceCommand_unknown {kind : Byte} (h : kind.toNat < 0x40 ∨ 0x5A < kind.toNat) (p : List Byte) :
    serviceCommand kind p = .serviceUnknownRequest kind p := by
  unfold serviceCommand
  split
  case h_28 => rfl
  all_goals omega

theorem serviceCommand_serviceParts {i : Instr} {code : Byte} {p : List Byte} (hwell : wellFormed i = true)
    (h : serviceParts i = some (code, p)) : serviceCommand code p = i := by
  unfold serviceParts at h
  split at h <;> cases h
  case h_28 =>
    have hboth : (_ && (decide (code.toNat < 0x40) || decide (0x5A < code.toNat))) = true := hwell
    exact serviceCommand_unknown (by simpa using (Bool.and_eq_true_iff.mp hboth).2) p
  all_goals rfl

theorem linkParts_length {i : Instr} {kind : Byte} {p : List Byte} (hwell : wellFormed i = true)
    (h : linkParts i = some (kind, p)) : p.length ≤ 64 := by
  unfold linkParts at h
  split at h <;> cases h
  case h_8 => exact of_decide_eq_true (Bool.and_eq_true_iff.mp (show (_ && _) = true from hwell)).1
  all_goals exact Nat.le_of_ble_eq_true rfl

/-- A frame that is not the CIU's own kind and form spells itself (R97, R191). -/
theorem linkCommand_other {kind : Byte} {payload : List Byte} (h : ownLinkFrame kind payload = false) :
    linkCommand kind payload = .linkOtherFrame kind payload := by
  unfold linkCommand
  split
  case h_1 key =>
    split
    case isTrue hkind =>
      have hbeyond : ¬ key.toNat ≤ 0x0E := by simpa [ownLinkFrame, hkind] using h
      rw [dif_neg (by omega), if_neg, if_neg, if_neg, if_neg, if_neg]
      all_goals (rintro rfl; exact hbeyond (by decide))
    case isFalse => rfl
  case h_2 ciuCase version =>
    have hbeyond : kind = Config.kindPresence → ¬ ciuCase.toNat ≤ 1 := by
      intro hkind
      simpa [ownLinkFrame, hkind] using h
    rw [if_neg, if_neg]
    all_goals (rintro ⟨hkind, rfl⟩; exact hbeyond hkind (by decide))
  case h_3 => rfl

theorem linkCommand_linkParts {i : Instr} {kind : Byte} {p : List Byte} (hwell : wellFormed i = true)
    (h : linkParts i = some (kind, p)) : linkCommand kind p = i := by
  unfold linkParts at h
  split at h <;> cases h
  case h_1 digit => revert digit; decide
  case h_7 caseOpen version => cases caseOpen <;> rfl
  case h_8 =>
    have hboth : (_ && !ownLinkFrame kind p) = true := hwell
    exact linkCommand_other (by simpa using (Bool.and_eq_true_iff.mp hboth).2)
  all_goals rfl

/-- Settles O59: at each interface the frame gives back the code and the parameters, and they spell the command. -/
theorem framesDecodeToTheirCommands : Obligations.FramesDecodeToTheirCommands := by
  refine fun i hwell => ⟨fun bytes h => ?_, fun characters h => ?_, fun characters h => ?_⟩
  · obtain ⟨⟨code, p⟩, hparts, rfl⟩ := Option.map_eq_some_iff.mp h
    rw [hostCommand_requestFrame (hostParts_length hwell hparts), hostRequest_hostParts hparts]
  · obtain ⟨⟨kind, p⟩, hparts, rfl⟩ := Option.map_eq_some_iff.mp h
    rw [linkDecode, frameOf_characterFrame (linkParts_length hwell hparts)]
    exact congrArg some (linkCommand_linkParts hwell hparts)
  · obtain ⟨⟨kind, p⟩, hparts, rfl⟩ := Option.map_eq_some_iff.mp h
    rw [serviceDecode, frameOf_characterFrame (serviceParts_length hwell hparts)]
    exact congrArg some (serviceCommand_serviceParts hwell hparts)

/-! ### Frames taken by their characters (R95, log 10) -/

/-- The state with the assemblies of its receivers replaced. -/
def withLinkAssembly (a : Assembly) (s : State) : State :=
  { s with device := s.device.setLink { s.device.link with assembly := a } }

def withServiceAssembly (a : Assembly) (s : State) : State :=
  { s with device := s.device.setService { s.device.service with assembly := a } }

/-- An event taken at two states whose devices show the same display, and which it leads to the same device. -/
theorem takeEvent_congr {s t : State} {f g : Device → Device} (hpending : t.pending = s.pending)
    (hrun : running t.device = running s.device) (hdisplayed : displayed t.device = displayed s.device)
    (h : f t.device = g s.device) : takeEvent t f = takeEvent s g := by
  cases t; cases s
  cases hpending
  simp only [takeEvent_eq, noteDisplay, hrun, hdisplayed, h]

/-- A receiver that takes characters one by one: each that ends no frame moves its assembly, and so the characters of a
frame are held until its check byte, which acts. -/
theorem feed_frame {take : Byte → Instr} {place : Assembly → State → State} {s : State} {kind : Byte} {payload : List Byte}
    (hlength : payload.length ≤ 64)
    (hmove : ∀ c a b, receive c a = (b, .nothing) → exec (take c) (place a s) = .next (place b s)) :
    feed take (characterFrame kind payload) (place .hunting s)
      = match exec (take (checkByte (kind :: BitVec.ofNat 8 payload.length :: payload)))
            (place (.assembling (kind :: BitVec.ofNat 8 payload.length :: payload)) s) with
        | .next t => .next t
        | other => other := by
  have hfits := toNat_ofNat_length hlength (by decide)
  have hpayload : ∀ rest held : List Byte, held ++ rest = payload →
      feed take (rest ++ [checkByte (kind :: BitVec.ofNat 8 payload.length :: payload)])
          (place (.assembling (kind :: BitVec.ofNat 8 payload.length :: held)) s)
        = feed take [checkByte (kind :: BitVec.ofNat 8 payload.length :: payload)]
          (place (.assembling (kind :: BitVec.ofNat 8 payload.length :: payload)) s) := by
    intro rest
    induction rest with
    | nil => rintro held rfl; simp
    | cons c rest ih =>
      intro held hheld
      have hroom : held.length < (BitVec.ofNat 8 payload.length : Byte).toNat := by
        rw [hfits, ← hheld]
        simp
      rw [List.cons_append, feed, hmove c _ _ (receive_more hroom)]
      exact ih (held ++ [c]) (by simpa using hheld)
  unfold characterFrame
  dsimp only [List.cons_append]
  rw [feed, hmove Config.startCharacter .hunting (.assembling []) rfl]
  dsimp only
  rw [feed, hmove kind (.assembling []) (.assembling [kind]) rfl]
  dsimp only
  rw [feed, hmove _ (.assembling [kind]) _ (receive_length (hfits.le.trans hlength))]
  exact hpayload payload [] rfl

/-- The check byte ends the frame that is held (R95). -/
theorem receive_check {kind : Byte} {payload : List Byte} (h : payload.length ≤ 64) :
    receive (checkByte (kind :: BitVec.ofNat 8 payload.length :: payload))
        (.assembling (kind :: BitVec.ofNat 8 payload.length :: payload))
      = (.hunting, .frame kind payload) := by
  have hfits := toNat_ofNat_length h (by decide)
  have hsum := sumsToZero_check (kind :: BitVec.ofNat 8 payload.length :: payload)
  have hfull : ¬ payload.length < (BitVec.ofNat 8 payload.length : Byte).toNat := by rw [hfits]; exact Nat.lt_irrefl _
  simp only [receive, if_neg hfull]
  exact if_pos hsum

/-- A KEY frame's command is its arrival (R97, R191). -/
theorem exec_keyCommand (key : Byte) (s : State) :
    exec (linkCommand Config.kindKey [key]) s
      = takeEvent s (linkArrival Config.kindKey [key] (frameAction Config.kindKey [key])) := by
  by_cases hdigit : key.toNat < 10
  · have hcommand : linkCommand Config.kindKey [key] = .digitKey ⟨key.toNat, hdigit⟩ := by simp [linkCommand, hdigit]
    have haction : frameAction Config.kindKey [key] = keyArrival (digitAction ⟨key.toNat, hdigit⟩) := by
      simp [frameAction, keyAction, hdigit]
    have hkey : BitVec.ofNat 8 key.toNat = key := by simp
    calc exec (linkCommand Config.kindKey [key]) s
        = takeEvent s (linkArrival Config.kindKey [BitVec.ofNat 8 key.toNat]
            (keyArrival (digitAction ⟨key.toNat, hdigit⟩))) := by rw [hcommand]; rfl
      _ = _ := by rw [hkey, haction]
  · have hcommand : linkCommand Config.kindKey [key]
        = if key = 0x0A then .backKey else if key = 0x0B then .enterKey else if key = 0x0C then .emergencyKey
          else if key = 0x0D then .reconnectKey else if key = 0x0E then .infoKey
          else .linkOtherFrame Config.kindKey [key] := by
      simp [linkCommand, hdigit]
    rw [hcommand]
    split
    case isTrue h => subst h; rfl
    split
    case isTrue h => subst h; rfl
    split
    case isTrue h => subst h; rfl
    split
    case isTrue h => subst h; rfl
    split
    case isTrue h => subst h; rfl
    case isFalse => rfl

/-- A frame's command at the customer link is its arrival (R97). -/
theorem exec_linkCommand (kind : Byte) (payload : List Byte) (s : State) :
    exec (linkCommand kind payload) s = takeEvent s (linkArrival kind payload (frameAction kind payload)) := by
  unfold linkCommand
  split
  case h_1 key =>
    split
    case isTrue hkind => subst hkind; exact exec_keyCommand key s
    case isFalse => rfl
  case h_2 ciuCase version =>
    split
    case isTrue h => obtain ⟨rfl, rfl⟩ := h; rfl
    split
    case isTrue h => obtain ⟨rfl, rfl⟩ := h; rfl
    case isFalse => rfl
  case h_3 => rfl

/-- A frame's command at the service port is its arrival (R180). -/
theorem exec_serviceCommand (kind : Byte) (payload : List Byte) (s : State) :
    exec (serviceCommand kind payload) s = takeEvent s (serviceFrame kind payload) := by
  by_cases hknown : 0x40 ≤ kind.toNat ∧ kind.toNat ≤ 0x5A
  · obtain ⟨hlow, hhigh⟩ := hknown
    have hkind : kind = BitVec.ofNat 8 kind.toNat := by simp
    generalize kind.toNat = n at hlow hhigh hkind
    subst hkind
    interval_cases n <;> rfl
  · have hunknown : kind.toNat < 0x40 ∨ 0x5A < kind.toNat := by omega
    have hnone : serviceHandler kind.toNat payload = none := by
      unfold serviceHandler
      split
      case h_28 => rfl
      all_goals omega
    rw [serviceCommand_unknown hunknown]
    change takeEvent s _ = _
    rw [takeEvent_eq, takeEvent_eq, if_pos hunknown, serviceFrame, hnone]
    rfl

section
variable {s : State} (hrun : running s.device = true)
include hrun

theorem exec_linkCharacter_moves {c : Byte} {a b : Assembly} (h : receive c a = (b, .nothing)) :
    exec (.linkGoodCharacter c) (withLinkAssembly a s) = .next (withLinkAssembly b s) := by
  have hmoved := linkCharacter_nothing (d := (withLinkAssembly a s).device) hrun h
  change takeEvent _ _ = _
  rw [takeEvent_eq, hmoved, noteDisplay_of_same (displayed_setLink _ _)]
  rfl

theorem exec_serviceCharacter_moves {c : Byte} {a b : Assembly} (h : receive c a = (b, .nothing)) :
    exec (.serviceGoodCharacter c) (withServiceAssembly a s) = .next (withServiceAssembly b s) := by
  have hmoved := serviceCharacter_nothing (d := (withServiceAssembly a s).device) hrun h
  change takeEvent _ _ = _
  rw [takeEvent_eq, hmoved, noteDisplay_of_same (displayed_setService _ _)]
  rfl

variable {kind : Byte} {payload : List Byte} (hlength : payload.length ≤ 64)
include hlength

/-- The check byte of a frame held on the customer link does what the frame's command does (log 10). -/
theorem exec_linkCheck (hhunting : s.device.link.assembly = .hunting) :
    exec (.linkGoodCharacter (checkByte (kind :: BitVec.ofNat 8 payload.length :: payload)))
        (withLinkAssembly (.assembling (kind :: BitVec.ofNat 8 payload.length :: payload)) s)
      = exec (linkCommand kind payload) s := by
  have hready : linkReady kind payload s.device := ⟨hrun, by simp [admitsFrame, hhunting, hlength]⟩
  rw [exec_linkCommand]
  refine takeEvent_congr (f := linkCharacter _) rfl rfl rfl ?_
  rw [linkArrival_ready hready]
  exact linkCharacter_frame (a := .hunting)
    (d := (withLinkAssembly (.assembling (kind :: BitVec.ofNat 8 payload.length :: payload)) s).device) hrun
    (receive_check hlength)

theorem exec_serviceCheck (hhunting : s.device.service.assembly = .hunting) :
    exec (.serviceGoodCharacter (checkByte (kind :: BitVec.ofNat 8 payload.length :: payload)))
        (withServiceAssembly (.assembling (kind :: BitVec.ofNat 8 payload.length :: payload)) s)
      = exec (serviceCommand kind payload) s := by
  have hhunts : huntService (withServiceAssembly (.assembling (kind :: BitVec.ofNat 8 payload.length :: payload)) s).device
      = s.device := by
    simp only [huntService, withServiceAssembly, ← hhunting]
    rfl
  rw [exec_serviceCommand]
  refine takeEvent_congr (f := serviceCharacter _) rfl rfl rfl ?_
  have hframe := serviceCharacter_frame (a := .hunting)
    (d := (withServiceAssembly (.assembling (kind :: BitVec.ofNat 8 payload.length :: payload)) s).device) hrun
    (receive_check hlength)
  rw [hhunts] at hframe
  exact hframe

end

theorem withLinkAssembly_self {s : State} {a : Assembly} (h : s.device.link.assembly = a) :
    withLinkAssembly a s = s := by subst h; rfl

theorem withServiceAssembly_self {s : State} {a : Assembly} (h : s.device.service.assembly = a) :
    withServiceAssembly a s = s := by subst h; rfl

theorem outcome_match_self (o : Host.Outcome State Fault Refusal) :
    (match o with
      | .next t => .next t
      | other => other) = o := by cases o <;> rfl

/-- Settles O20: the characters before the check byte move the assembly alone, and the check byte acts as the command. -/
theorem framesTakenByCharacters : Obligations.FramesTakenByCharacters := by
  refine fun s kind payload hrun hlength => ⟨fun hhunting => ?_, fun hhunting => ?_⟩
  · have hfed := feed_frame (take := .linkGoodCharacter) (place := withLinkAssembly) (s := s) (kind := kind) hlength
      fun _ _ _ => exec_linkCharacter_moves hrun
    rw [withLinkAssembly_self hhunting, exec_linkCheck hrun hlength hhunting] at hfed
    exact hfed.trans (outcome_match_self _)
  · have hfed := feed_frame (take := .serviceGoodCharacter) (place := withServiceAssembly) (s := s) (kind := kind) hlength
      fun _ _ _ => exec_serviceCharacter_moves hrun
    rw [withServiceAssembly_self hhunting, exec_serviceCheck hrun hlength hhunting] at hfed
    exact hfed.trans (outcome_match_self _)

end Sys2Proof.Machine
end

section
/-! PROOFS. Requests at the two ports: how a request is served, and the requests that answer without touching a block, or
touch one. -/

namespace Sys2Proof.Machine

/-! ### Serving a request at the meter host port (R163, R166) -/

@[simp] theorem noParameters_nil (h : Handler) (d : Device) : noParameters [] h d = h d := if_pos rfl

@[simp] theorem noParameters_cons (b : Byte) (p : List Byte) (h : Handler) (d : Device) :
    noParameters (b :: p) h d = (d, refusal .badValue) := if_neg (List.cons_ne_nil _ _)

theorem prepare_keeps (a : Answer) (d : Device) : keepsBut [.host] d (prepare a d) := setHost_keeps _ _

theorem hostReady_nil {d : Device} (h : running d = true) : hostReady [] d := ⟨h, Nat.zero_le _⟩

theorem hostServe_ready {p : List Byte} {d : Device} (h : hostReady p d) (f : Handler) :
    hostServe p f d = prepare (f d).2 (f d).1 := by
  obtain ⟨hrun, hlength⟩ := h
  rw [hostServe, if_pos hrun, if_pos hlength]

section
variable {c : Instr} {s : State} {p : List Byte} {h : Handler} {a : Answer} {e : Device} {after : Device → Prop}
  (hexec : exec c s = takeEvent s (hostServe p h)) (hready : hostReady p s.device)
include hexec hready

/-- A request that the port takes: its handler acts, and its answer is prepared. -/
theorem answers_host (hserved : h s.device = (e, a)) (hafter : after (noteDisplay s.device (prepare a e))) :
    answers c s after := by
  refine answers_of_takeEvent hexec ?_
  rw [hostServe_ready hready, hserved]
  exact hafter

/-- A request that answers and changes nothing. -/
theorem answers_hostOnly (hserved : h s.device = (s.device, a)) :
    answers c s fun d => responded a s.device d ∧ keepsBut [.host] s.device d :=
  answers_host hexec hready hserved ⟨noteDisplay_host _ _, keepsBut_noteDisplay (prepare_keeps _ _)⟩

/-- A request whose effect leaves the port. -/
theorem answers_hostFrame {l m : List Block} (hserved : h s.device = (e, a)) (hframe : keepsBut l s.device e)
    (hport : .host ∉ l) (hlm : l ⊆ m) (hm : [.host] ⊆ m)
    (hafter : ∀ d, d = noteDisplay s.device (prepare a e) → responded a s.device d → keepsBut m s.device d → after d) :
    answers c s after := by
  refine answers_host hexec hready hserved (hafter _ rfl ?_ ?_)
  · rw [responded, noteDisplay_host, prepare, Device.setHost_host, hframe.host hport]
  · exact keepsBut_noteDisplay (keepsBut_comp hframe (prepare_keeps _ _) hlm hm)

end

/-! ### Serving a request at the service port (R180, R181) -/

theorem serviceServe_ready {code : Byte} {p : List Byte} {d : Device} (h : serviceReady code p d) (f : LateHandler) :
    serviceServe code p f d = replyWith code (f (huntService d)).2 (f (huntService d)).1 := by
  obtain ⟨hrun, hadmits, hwaiting, hwriting⟩ := h
  simp [serviceServe, hrun, hadmits, huntService, hwaiting, hwriting]

section
variable {c : Instr} {s : State} {code : Byte} {p : List Byte} {h : LateHandler} {a : Answer} {e : Device}
  {after : Device → Prop} (hexec : exec c s = takeEvent s (serviceServe code p h)) (hready : serviceReady code p s.device)
include hexec hready

/-- A request that the port takes: its handler acts, and its answer waits. -/
theorem answers_service (hserved : h (huntService s.device) = (e, some a))
    (hafter : after (noteDisplay s.device (replyWith code (some a) e))) : answers c s after := by
  refine answers_of_takeEvent hexec ?_
  rw [serviceServe_ready hready, hserved]
  exact hafter

/-- A request whose effect leaves the port. -/
theorem answers_serviceFrame {l m : List Block} (hserved : h (huntService s.device) = (e, some a))
    (hframe : keepsBut l (huntService s.device) e) (hport : .service ∉ l) (hlm : l ⊆ m) (hm : [.service] ⊆ m)
    (hafter : ∀ d, d = noteDisplay s.device (replyWith code (some a) e) → replied code a s.device d →
      keepsBut m s.device d → after d) : answers c s after := by
  refine answers_service hexec hready hserved (hafter _ rfl ?_ ?_)
  · rw [replied, noteDisplay_service, replyWith, Device.setService_service, hframe.service hport]
    rfl
  · exact keepsBut_noteDisplay (keepsBut_trans (keepsBut_comp (huntService_keeps s.device) hframe hm hlm)
      (keepsBut_mono (setService_keeps e _) hm))

/-- A request that answers and changes nothing. -/
theorem answers_serviceOnly (hserved : h (huntService s.device) = (huntService s.device, some a)) :
    answers c s fun d => replied code a s.device d ∧ keepsBut [.service] s.device d :=
  answers_serviceFrame (m := [.service]) hexec hready hserved (keepsBut_refl [] _) (by decide) (by decide) (by decide)
    fun _ _ hreplied hframe => ⟨hreplied, hframe⟩

end

theorem changing_open {h : Handler} {d : Device} (hopen : 0 < d.codes.windowMinutes) :
    answering (changing h) d = ((h d).1, some (h d).2) := by
  simp only [answering, changing, if_neg hopen.ne']

theorem changing_closed {h : Handler} {d : Device} (hclosed : d.codes.windowMinutes = 0) :
    answering (changing h) d = (d, some (refusal .windowClosed)) := by
  simp only [answering, changing, if_pos hclosed]

/-! ### Reads (R167, R182) -/

/-- Settles O37: the five reads take no parameter, and GET_TARIFF a selector. -/
theorem hostReadsChangeNoBlock : Obligations.HostReadsChangeNoBlock := by
  refine fun s => ⟨fun hrun => ?_, fun b p hready => ?_⟩
  · have hready := hostReady_nil hrun
    have hselector : ∀ b : Byte, hostReady [b] s.device := fun b => ⟨hrun, Nat.le_of_ble_eq_true rfl⟩
    refine ⟨answers_hostOnly rfl hready (noParameters_nil _ _), answers_hostOnly rfl hready (noParameters_nil _ _),
      answers_hostOnly rfl hready (noParameters_nil _ _), answers_hostOnly rfl hready (noParameters_nil _ _),
      answers_hostOnly rfl hready (noParameters_nil _ _), answers_hostOnly rfl (hselector _) rfl,
      answers_hostOnly rfl (hselector _) ?_⟩
    unfold getTariffHandler
    dsimp only
    rw [if_neg (by decide), if_pos rfl]
    cases s.device.tariffs.pending <;> rfl
  · refine ⟨answers_hostOnly rfl hready (noParameters_cons _ _ _ _), answers_hostOnly rfl hready (noParameters_cons _ _ _ _),
      answers_hostOnly rfl hready (noParameters_cons _ _ _ _), answers_hostOnly rfl hready (noParameters_cons _ _ _ _),
      answers_hostOnly rfl hready (noParameters_cons _ _ _ _), fun hbeyond => answers_hostOnly rfl hready ?_⟩
    unfold getTariffHandler
    split
    case h_1 selector hselector =>
      obtain ⟨rfl, rfl⟩ := List.cons_eq_cons.mp hselector
      rw [if_neg, if_neg]
      all_goals (rintro rfl; exact absurd hbeyond (by decide))
    case h_2 => rfl

/-- A paged read answers its page, or BAD_VALUE at or above the page count (R180). -/
theorem pagedRead_eq (page : Byte) (fields : Device → List (List Byte)) (d : Device) :
    pagedRead [page] fields d
      = (d, match pageOf (fields d) page.toNat with
            | some data => accepted data
            | none => refusal .badValue) := by
  simp only [pagedRead]
  split <;> simp_all

section
variable {c : Instr} {s : State} {code : Byte}

/-- A paged read at the service port. -/
theorem answers_paged {page : Byte} {fields : Device → List (List Byte)}
    (hexec : exec c s = takeEvent s (serviceServe code [page] (answering (pagedRead [page] fields))))
    (hready : serviceReady code [page] s.device) (hfields : fields (huntService s.device) = fields s.device) :
    answers c s fun d =>
      replied code
          (match pageOf (fields s.device) page.toNat with
            | some data => accepted data
            | none => refusal .badValue)
          s.device d
        ∧ keepsBut [.service] s.device d := by
  refine answers_serviceOnly hexec hready ?_
  rw [answering, pagedRead_eq, hfields]

/-- A read at the service port that takes no parameter. -/
theorem answers_unpaged {data : Device → List Byte}
    (hexec : exec c s = takeEvent s (serviceServe code [] (answering (noParameters [] (reading data)))))
    (hready : serviceReady code [] s.device) (hdata : data (huntService s.device) = data s.device) :
    answers c s fun d => replied code (accepted (data s.device)) s.device d ∧ keepsBut [.service] s.device d := by
  refine answers_serviceOnly hexec hready ?_
  rw [answering, noParameters_nil, reading, hdata]

/-- Parameters refuse a request that takes none (R181). -/
theorem answers_unparameterised {b : Byte} {p : List Byte} {h : Handler}
    (hexec : exec c s = takeEvent s (serviceServe code (b :: p) (answering (noParameters (b :: p) h))))
    (hready : serviceReady code (b :: p) s.device) :
    answers c s fun d => replied code (refusal .badValue) s.device d ∧ keepsBut [.service] s.device d := by
  refine answers_serviceOnly hexec hready ?_
  rw [answering, noParameters_cons]

end

/-- READ_TARIFF by its selector and page (R63, R180). -/
theorem readTariff_active (page : Byte) (d : Device) :
    readTariffHandler [0x00, page] d
      = (d, if page = 0x00 then accepted ([0x00, 0x02] ++ tariffPage0 d.tariffs.active)
            else if page = 0x01 then accepted ([0x01, 0x02] ++ tariffPage1 d.tariffs.active none)
            else refusal .badValue) := by
  simp only [readTariffHandler]
  by_cases h0 : page = 0x00
  · subst h0; rfl
  by_cases h1 : page = 0x01
  · subst h1; rfl
  · have hbeyond : 1 < page.toNat := by
      by_contra hle
      have : page.toNat = 0 ∨ page.toNat = 1 := by omega
      exact this.elim (fun h => h0 (BitVec.eq_of_toNat_eq h)) fun h => h1 (BitVec.eq_of_toNat_eq h)
    rw [if_pos (.inr hbeyond), if_neg h0, if_neg h1]

theorem readTariff_pending (page : Byte) (d : Device) :
    readTariffHandler [0x01, page] d
      = (d, if 0x01 < page.toNat then refusal .badValue
            else match d.tariffs.pending with
              | none => refusal .noPending
              | some p => accepted ([page, 0x02]
                  ++ if page = 0x00 then tariffPage0 p.tariff else tariffPage1 p.tariff (some p.confirmed))) := by
  simp only [readTariffHandler]
  by_cases hbeyond : 0x01 < page.toNat
  · rw [if_pos (.inr hbeyond), if_pos hbeyond]
  · rw [if_neg (not_or.mpr ⟨by decide, hbeyond⟩), if_neg (by decide), if_neg hbeyond]
    cases d.tariffs.pending <;> rfl

/-- Settles O46: the reads of a page, of the tariffs, and those that take no parameter. -/
theorem serviceReadsChangeNoBlock : Obligations.ServiceReadsChangeNoBlock := by
  refine fun s => ⟨fun hready => answers_unpaged rfl hready rfl, fun hready => answers_unpaged rfl hready rfl,
    fun hready => answers_unpaged rfl hready rfl,
    fun hready => answers_unpaged (data := fun d => lastResultBytes d.service.lastResult) rfl hready rfl, fun page =>
    ⟨fun hready => answers_paged rfl hready rfl,
      fun hready => answers_paged (fields := fun d => demandFields d.load) rfl hready rfl,
      fun hready => answers_paged rfl hready rfl,
      fun hready => answers_paged (fields := fun d => codeListFields d.codes) rfl hready rfl, fun hready => ?_,
      fun hready => ?_, answers_unparameterised rfl, answers_unparameterised rfl, answers_unparameterised rfl,
      answers_unparameterised rfl⟩⟩
  · refine answers_serviceOnly rfl hready ?_
    rw [handleReadTariff, answering, readTariff_active]
    rfl
  · refine answers_serviceOnly rfl hready ?_
    rw [handleReadTariff, answering, readTariff_pending]
    rfl

/-! ### The window (R180, R181) -/

/-- The changing requests of Table 10-2. -/
theorem serviceHandler_changing {code : Nat} (hlow : 0x4E ≤ code) (hhigh : code ≤ 0x5A) (p : List Byte) :
    ∃ h, serviceHandler code p = some (answering (changing h)) := by
  interval_cases code <;> exact ⟨_, rfl⟩

/-- Settles O47: a request is served by its code, after the two judgements of the port, and the window first. -/
theorem changingRequestsNeedTheWindow : Obligations.ChangingRequestsNeedTheWindow := by
  refine fun s code p hrun hadmits => ⟨fun hwaiting => ?_, fun hwaiting hwriting => ?_,
    fun hwaiting hwriting hclosed hlow hhigh => ?_⟩
  · refine answers_exactly (exec_serviceCommand code p s) ?_ rfl
    obtain ⟨r, hr⟩ := Option.ne_none_iff_exists'.mp hwaiting
    simp [serviceFrame, serviceServe, hrun, hadmits, huntService, hr]
  · obtain ⟨o, ho⟩ := Option.ne_none_iff_exists'.mp hwriting
    refine answers_of_takeEvent (exec_serviceCommand code p s) ?_
    have hbusy : serviceFrame code p s.device = replyWith code (some (refusal .busy)) (huntService s.device) := by
      simp [serviceFrame, serviceServe, hrun, hadmits, huntService, hwaiting, ho]
    rw [hbusy]
    exact ⟨noteDisplay_service _ _, keepsBut_noteDisplay (keepsBut_trans (huntService_keeps _) (setService_keeps _ _))⟩
  · obtain ⟨h, hhandler⟩ := serviceHandler_changing hlow hhigh p
    refine answers_serviceOnly (h := answering (changing h)) ?_ ⟨hrun, hadmits, hwaiting, hwriting⟩ (changing_closed hclosed)
    rw [exec_serviceCommand, serviceFrame, hhandler]
    rfl

/-! ### Framing at the service port (R179, R180) -/

/-- Settles O54: the framing commands are one update of the port. -/
theorem servicePortFraming : Obligations.ServicePortFraming := by
  refine fun s hrun => ⟨answers_exactly rfl (if_pos hrun) rfl, answers_exactly rfl (if_pos hrun) rfl,
    answers_exactly rfl (if_pos hrun) rfl, fun kind p hready hkind => ?_, fun hidle => ?_, fun hsending => ?_,
    fun hready hopen => ?_⟩
  · refine answers_serviceOnly (h := answering fun d => (d, refusal .unknownRequest)) ?_ hready rfl
    change takeEvent s _ = _
    rw [takeEvent_eq, takeEvent_eq, if_pos hkind]
  · exact answers_exactly rfl (if_pos ⟨hrun, hidle⟩) rfl
  · exact answers_exactly rfl (if_pos ⟨hrun, hsending⟩) rfl
  · refine answers_serviceFrame (l := [.link]) (m := [.link, .service]) rfl hready (changing_open hopen) (setLink_keeps _ _)
      (by decide) (by decide) (by decide) ?_
    rintro d rfl hreplied hframe
    exact ⟨(noteDisplay_keeps _ _).linkBody, hreplied, hframe⟩

/-! ### SUBMIT_CODE (R72) -/

theorem submitPort_badValue {w : CodeSource} {p : List Byte} {d : Device} (h : codeOf p = none) :
    submitPort w p d = (d, refusal .badValue) := by
  simp only [submitPort, h]
  rfl

theorem submitPort_full {w : CodeSource} {p : List Byte} {d : Device} {digits : List Digit} (h : codeOf p = some digits)
    (hfull : 4 ≤ d.codes.queue.length) : submitPort w p d = (d, refusal .queueFull) := by
  simp only [submitPort, h]
  exact if_pos hfull

theorem submitPort_queued {w : CodeSource} {p : List Byte} {d : Device} {digits : List Digit} (h : codeOf p = some digits)
    (hroom : ¬ 4 ≤ d.codes.queue.length) :
    submitPort w p d = (enqueueCode w digits d, { result := .queued, data := beBytes 1 d.codes.nextTicket }) := by
  simp only [submitPort, h]
  exact if_neg hroom

/-- The answer of R72. -/
def submitAnswer (p : List Byte) (d : Device) : Answer :=
  match codeOf p with
  | none => refusal .badValue
  | some _ =>
    if decide (4 ≤ d.codes.queue.length) then refusal .queueFull
    else { result := .queued, data := beBytes 1 d.codes.nextTicket }

/-- What a SUBMIT_CODE does to the Code Checker. -/
def submitTaken (w : CodeSource) (p : List Byte) (d e : Device) : Prop :=
  match codeOf p with
  | none => e.codes = d.codes
  | some digits =>
    if decide (4 ≤ d.codes.queue.length) then e.codes = d.codes
    else e.codes.inCheck.toList ++ e.codes.queue
          = d.codes.inCheck.toList ++ d.codes.queue ++ [{ source := w, digits := digits, ticket := d.codes.nextTicket }]
        ∧ e.codes.nextTicket = (if d.codes.nextTicket < 255 then d.codes.nextTicket + 1 else 0)
        ∧ e.codes.used = d.codes.used ∧ e.codes.floor = d.codes.floor

theorem submitPort_keeps (w : CodeSource) (p : List Byte) (d : Device) : keepsBut [.codes] d (submitPort w p d).1 := by
  unfold submitPort
  split
  · exact keepsBut_refl _ _
  · split
    · exact keepsBut_refl _ _
    · exact enqueueCode_keeps _ _ _

theorem submitPort_taken (w : CodeSource) (p : List Byte) (d : Device) :
    (submitPort w p d).2 = submitAnswer p d ∧ submitTaken w p d (submitPort w p d).1 := by
  unfold submitAnswer submitTaken
  cases hcode : codeOf p with
  | none => rw [submitPort_badValue hcode]; exact ⟨rfl, rfl⟩
  | some digits =>
    dsimp only
    by_cases hfull : 4 ≤ d.codes.queue.length
    · rw [submitPort_full hcode hfull, if_pos (decide_eq_true hfull), if_pos (decide_eq_true hfull)]
      exact ⟨rfl, rfl⟩
    · rw [submitPort_queued hcode hfull, if_neg (by simpa using hfull), if_neg (by simpa using hfull)]
      obtain ⟨hwaiting, hticket, hused, hfloor, _⟩ := enqueueCode_codes w digits d
      exact ⟨rfl, hwaiting, hticket, hused, hfloor⟩

/-- What is taken is read from the Code Checker alone. -/
theorem submitTaken_congr {w : CodeSource} {p : List Byte} {d e f : Device} (h : f.codes = e.codes)
    (ht : submitTaken w p d e) : submitTaken w p d f := by
  unfold submitTaken at ht ⊢
  rw [h]
  exact ht

/-- Settles O25: the three answers of R72, at both ports. -/
theorem submitCodeQueuesWithTicket : Obligations.SubmitCodeQueuesWithTicket := by
  refine fun s p => ⟨fun hready => ?_, fun hready => ?_⟩
  · obtain ⟨hanswer, htaken⟩ := submitPort_taken .meterHost p s.device
    refine answers_hostFrame (m := [.codes, .host]) (e := (submitPort .meterHost p s.device).1) (a := submitAnswer p s.device)
      rfl hready (Prod.ext rfl hanswer) (submitPort_keeps _ _ _) (by decide)
      (by decide) (by decide) ?_
    rintro d rfl hresponded hframe
    exact ⟨hresponded, submitTaken_congr (noteDisplay_codes _ _) htaken, hframe⟩
  · obtain ⟨hanswer, htaken⟩ := submitPort_taken .service p (huntService s.device)
    refine answers_serviceFrame (m := [.codes, .service]) (e := (submitPort .service p (huntService s.device)).1)
      (a := submitAnswer p (huntService s.device)) rfl hready (Prod.ext rfl (congrArg some hanswer))
      (submitPort_keeps _ _ _) (by decide) (by decide) (by decide) ?_
    rintro d rfl hreplied hframe
    exact ⟨hreplied, submitTaken_congr (noteDisplay_codes _ _) htaken, hframe⟩

end Sys2Proof.Machine
end

section
/-! PROOFS. Requests that act on one block: the relay, its reasons, the pending tariff, the notices, and a metrology
report. -/

namespace Sys2Proof.Machine

/-! ### RETRY_RELAY outside STUCK (R123) -/

theorem retryHandler_settled {d : Device} (h : (settledPosition d.relay.state).isSome = true) :
    retryHandler d = (d.setRelay { d.relay with fault := none }, accepted []) := by
  unfold retryHandler
  cases hst : d.relay.state <;> simp [hst, settledPosition] at h ⊢

theorem retryHandler_busy {d : Device} (h : inOperation d.relay.state = true) :
    retryHandler d = (d, refusal .busy) := by
  unfold retryHandler
  cases hst : d.relay.state <;> simp [hst, inOperation] at h ⊢

/-- Settles O29: in a settled state the request is one update of the relay, in flight none. -/
theorem retryRelayOutsideStuck : Obligations.RetryRelayOutsideStuck := by
  refine fun s hready hopen => ⟨fun hsettled => ?_, fun hflight => ?_⟩
  · have hserved : handleRetryRelay [] (huntService s.device)
        = ((huntService s.device).setRelay { s.device.relay with fault := none }, some (accepted [])) := by
      rw [handleRetryRelay, changing_open (d := huntService s.device) hopen, noParameters_nil,
        retryHandler_settled (d := huntService s.device) hsettled]
      rfl
    refine answers_serviceFrame (m := [.relay, .service]) rfl hready hserved (setRelay_keeps _ _) (by decide) (by decide)
      (by decide) ?_
    rintro d rfl hreplied hframe
    exact ⟨noteDisplay_relay _ _, hreplied, hframe⟩
  · refine answers_serviceOnly rfl hready ?_
    rw [handleRetryRelay, changing_open (d := huntService s.device) hopen, noParameters_nil,
      retryHandler_busy (d := huntService s.device) hflight]

/-! ### Notices and outcomes (R87, R173, R174) -/

/-- Every place of a notice set is a notice's. -/
theorem exists_noticeBit {i : Nat} (hi : i < 9) : ∃ n, noticeBit n = i := by
  interval_cases i
  exacts [⟨.credit, rfl⟩, ⟨.relay, rfl⟩, ⟨.tamper, rfl⟩, ⟨.codeResult, rfl⟩,
    ⟨.tariff, rfl⟩, ⟨.timeClamped, rfl⟩,
    ⟨.logNew, rfl⟩, ⟨.restarted, rfl⟩, ⟨.account, rfl⟩]

theorem hasNotice_iff_and (x y : NoticeSet) :
    (x &&& y) ≠ 0 ↔ ∃ n, hasNotice x n = true ∧ hasNotice y n = true := by
  constructor
  · intro hne
    by_contra hnone
    refine hne (BitVec.eq_of_getLsbD_eq fun i hi => ?_)
    obtain ⟨n, hn⟩ := exists_noticeBit hi
    rw [BitVec.getLsbD_and, show (0 : NoticeSet) = 0#9 from rfl, BitVec.getLsbD_zero, Bool.and_eq_false_iff]
    by_contra hboth
    simp only [not_or, Bool.not_eq_false] at hboth
    exact hnone ⟨n, by simpa [hasNotice, hn] using hboth.1, by simpa [hasNotice, hn] using hboth.2⟩
  · rintro ⟨n, hx, hy⟩ hzero
    have hbit := congrArg (fun z : NoticeSet => z.getLsbD (noticeBit n)) hzero
    simp only [BitVec.getLsbD_and] at hbit
    simp only [hasNotice] at hx hy
    simp [hx, hy] at hbit

theorem noticeLine_iff (d : Device) :
    noticeLine d = true ↔
      running d = true ∧ ∃ n, hasNotice d.host.notices n = true ∧ hasNotice d.host.enabled n = true := by
  rw [noticeLine, Bool.and_eq_true, bne_iff_ne, hasNotice_iff_and]

theorem enableHandler_set {p : List Byte} {d : Device} (h : p.length = 2 ∧ beNat p < 512) :
    enableHandler p d
      = (d.setHost { d.host with enabled := BitVec.ofNat 9 (beNat p) }, accepted (beBytes 2 (beNat p))) := by
  have hmask : (BitVec.ofNat 9 (beNat p)).toNat = beNat p := by
    rw [BitVec.toNat_ofNat]
    omega
  rw [enableHandler, if_pos h]
  simp only [noticeBytes, hmask]

theorem enableHandler_refused {p : List Byte} {d : Device} (h : ¬ (p.length = 2 ∧ beNat p < 512)) :
    enableHandler p d = (d, refusal .badValue) := if_neg h

/-- Settles O39: each request is one update of the port. -/
theorem noticesAndOutcomesCollectedOnce : Obligations.NoticesAndOutcomesCollectedOnce := by
  refine ⟨fun s => ⟨fun hrun => ?_, fun p hready => ?_, noticeLine_iff _⟩, fun s hrun => ?_⟩
  · refine answers_host rfl (hostReady_nil hrun) (noParameters_nil _ _) ⟨noteDisplay_host _ _, ?_, ?_⟩
    · exact keepsBut_noteDisplay (keepsBut_trans (setHost_keeps _ _) (setHost_keeps _ _))
    · rw [← Bool.not_eq_true, noticeLine_iff, noteDisplay_host]
      rintro ⟨_, n, hn, _⟩
      change hasNotice 0 n = true at hn
      simp [hasNotice] at hn
  · by_cases hform : p.length = 2 ∧ beNat p < 512
    · refine answers_host rfl hready (enableHandler_set hform)
        ⟨?_, fun _ _ => noteDisplay_host _ _, fun hnot => absurd hform hnot⟩
      exact keepsBut_noteDisplay (keepsBut_trans (setHost_keeps _ _) (setHost_keeps _ _))
    · refine answers_host rfl hready (enableHandler_refused hform)
        ⟨keepsBut_noteDisplay (prepare_keeps _ _), fun hlength hset => absurd ⟨hlength, hset⟩ hform,
          fun _ => noteDisplay_host _ _⟩
  · refine answers_host rfl (hostReady_nil hrun) (noParameters_nil _ _) ⟨noteDisplay_host _ _, ?_⟩
    exact keepsBut_noteDisplay (keepsBut_trans (setHost_keeps _ _) (setHost_keeps _ _))

/-! ### Holds and releases (R112, R113, R118) -/

/-- What a change of the set does to the relay on mains. -/
theorem setReasons_moves {d : Device} (hrun : running d = true) (r : Reasons) :
    (setReasons r d).relay.reasons = r
      ∧ (d.relay.state = .closed → r ≠ d.relay.reasons → r.isEmpty = false → openDrive (setReasons r d) = true)
      ∧ (d.relay.state = .open → r ≠ d.relay.reasons → r.isEmpty = true →
          (setReasons r d).relay.state = .reconnectReady) := by
  have hreacted : r ≠ d.relay.reasons → (setReasons r d).relay.state
      = reactedState (d.setRelay { d.relay with reasons := r }) := fun hne => by
    rw [setReasons_of_ne hne, reactToReasons_relay (d := d.setRelay { d.relay with reasons := r }) hrun]
  refine ⟨setReasons_reasons r d, fun hclosed hne hsome => ?_, fun hopen hne hempty => ?_⟩
  · rw [openDrive, hreacted hne]
    simp [reactedState, hclosed, settledOn, hsome, startAttempt]
  · rw [hreacted hne]
    simp [reactedState, hopen, settledOn, hempty]

theorem moves_noteDisplay {d e : Device} {r : Reasons} {old : Device}
    (h : e.relay.reasons = r
      ∧ (d.relay.state = .closed → r ≠ d.relay.reasons → r.isEmpty = false → openDrive e = true)
      ∧ (d.relay.state = .open → r ≠ d.relay.reasons → r.isEmpty = true → e.relay.state = .reconnectReady)) :
    (noteDisplay old e).relay.reasons = r
      ∧ (d.relay.state = .closed → r ≠ d.relay.reasons → r.isEmpty = false → openDrive (noteDisplay old e) = true)
      ∧ (d.relay.state = .open → r ≠ d.relay.reasons → r.isEmpty = true →
          (noteDisplay old e).relay.state = .reconnectReady) := by
  simpa only [openDrive, noteDisplay_relay] using h

/-- Settles O41: each request is a change of the set, at either port. -/
theorem holdsAndReleasesChangeTheirReason : Obligations.HoldsAndReleasesChangeTheirReason := by
  intro s hold hrun moves
  refine ⟨?_, fun hready hopen => ?_⟩
  · have hexec : exec (if hold then .remoteHold [] else .remoteRelease []) s
        = takeEvent s (hostServe [] (noParameters [] (remoteHandler hold))) := by cases hold <;> rfl
    have hmoves := setReasons_moves hrun { s.device.relay.reasons with remote := hold }
    refine answers_host hexec (hostReady_nil hrun) (noParameters_nil _ _) ⟨moves_noteDisplay hmoves, ?_, ?_⟩
    · rw [noteDisplay_host, prepare, Device.setHost_host]
      simp only [setReason_reasons]
      rfl
    · exact keepsBut_noteDisplay (keepsBut_comp (setReason_keeps .remote hold s.device) (prepare_keeps _ _))
  · have hexec : exec (if hold then .serviceHold [] else .serviceRelease []) s
        = takeEvent s (serviceServe (if hold then 0x53 else 0x54) []
            (answering (changing (noParameters [] (holdHandler hold))))) := by cases hold <;> rfl
    have hserved : answering (changing (noParameters [] (holdHandler hold))) (huntService s.device)
        = (setReason .service hold (huntService s.device),
            some (accepted (beBytes 1 (reasonsCode { s.device.relay.reasons with service := hold })))) := by
      rw [changing_open (d := huntService s.device) hopen, noParameters_nil]
      simp only [holdHandler, setReason_reasons]
      rfl
    have hmoves := setReasons_moves (d := huntService s.device) hrun { s.device.relay.reasons with service := hold }
    refine answers_serviceFrame (m := [.relay, .log, .host, .service]) hexec hready hserved (setReason_keeps _ _ _)
      (by decide) (by decide) (by decide) ?_
    rintro d rfl hreplied hframe
    exact ⟨moves_noteDisplay hmoves, hreplied, hframe⟩

/-! ### The pending tariff (R58, R59) -/

theorem cancelPending_some {d : Device} (h : d.tariffs.pending ≠ none) :
    cancelPending d = (d.setTariffs { d.tariffs with pending := none }, accepted []) := by
  unfold cancelPending
  split
  case h_1 hnone => exact absurd hnone h
  case h_2 => rfl

theorem cancelPending_none {d : Device} (h : d.tariffs.pending = none) : cancelPending d = (d, refusal .noPending) := by
  simp only [cancelPending, h]

/-- The service port raises TARIFF for what it has accepted, and for nothing else. -/
theorem noticeTariff_accepted {h : Handler} {d e : Device} {data : List Byte} (hh : h d = (e, accepted data)) :
    noticeTariff h d = (raiseNotice .tariff e, accepted data) := by
  simp only [noticeTariff, hh]
  rfl

theorem noticeTariff_refused {h : Handler} {d e : Device} {r : Result} (hh : h d = (e, refusal r)) (hr : r ≠ .accepted) :
    noticeTariff h d = (e, refusal r) := by
  simp only [noticeTariff, hh]
  exact if_neg hr

/-- Settles O42: the two cases of a pending tariff, at both ports. -/
theorem pendingTariffCancelled : Obligations.PendingTariffCancelled := by
  refine fun s => ⟨fun hrun => ⟨fun hsome => ?_, fun hnone => ?_⟩,
    fun hready => ⟨fun hclosed => ?_, fun hopen hsome => ?_,
    fun hopen hnone => ?_⟩⟩
  · refine answers_hostFrame (m := [.tariffs, .host]) rfl (hostReady_nil hrun)
      ((noParameters_nil _ _).trans (cancelPending_some hsome)) (setTariffs_keeps _ _) (by decide) (by decide) (by decide) ?_
    rintro d rfl hresponded hframe
    exact ⟨noteDisplay_tariffs _ _, hresponded, hframe⟩
  · exact answers_hostOnly rfl (hostReady_nil hrun) ((noParameters_nil _ _).trans (cancelPending_none hnone))
  · exact answers_serviceOnly rfl hready (changing_closed hclosed)
  · have hserved : handleServiceCancelPending [] (huntService s.device)
        = (raiseNotice .tariff ((huntService s.device).setTariffs { s.device.tariffs with pending := none }),
            some (accepted [])) := by
      rw [handleServiceCancelPending, changing_open (d := huntService s.device) hopen,
        noticeTariff_accepted ((noParameters_nil _ _).trans (cancelPending_some (d := huntService s.device) hsome))]
      rfl
    refine answers_serviceFrame (l := [.tariffs, .host]) (m := [.tariffs, .host, .service]) rfl hready hserved
      (keepsBut_comp (setTariffs_keeps _ _) (raiseNotice_keeps _ _)) (by decide) (by decide) (by decide) ?_
    rintro d rfl hreplied hframe
    exact ⟨noteDisplay_tariffs _ _, hreplied, noteDisplay_host _ _, hframe⟩
  · refine answers_serviceOnly rfl hready ?_
    rw [handleServiceCancelPending, changing_open (d := huntService s.device) hopen, noticeTariff_refused
      ((noParameters_nil _ _).trans (cancelPending_none (d := huntService s.device) hnone)) (by decide)]

/-- The answer of R58 and R194. -/
def putAnswer (p : List Byte) : Answer :=
  match packedTariff p with
  | none => refusal .badValue
  | some t => if validTariff t then accepted [] else refusal .badTariff

/-- The tariffs after a PUT_PENDING_TARIFF (R58). -/
def putTariffs (p : List Byte) (x : Tariffs) : Tariffs :=
  match packedTariff p with
  | none => x
  | some t => if validTariff t then { active := x.active, pending := some { tariff := t, confirmed := false } } else x

theorem putTariff_eq (p : List Byte) (d : Device) :
    putTariff p d = (d.setTariffs (putTariffs p d.tariffs), putAnswer p) := by
  unfold putTariff putTariffs putAnswer
  cases packedTariff p with
  | none => rfl
  | some t =>
    dsimp only
    split <;> rfl

/-- The record as stored, as the statement says it. -/
theorem putTariffs_stored (p : List Byte) (x y : Tariffs) (h : y = putTariffs p x) :
    match packedTariff p with
    | none => y = x
    | some t =>
      y = if validTariff t then { active := x.active, pending := some { tariff := t, confirmed := false } } else x := by
  subst h
  unfold putTariffs
  cases packedTariff p <;> rfl

/-- Settles O43: the form, then the record, at both ports. -/
theorem pendingTariffPut : Obligations.PendingTariffPut := by
  intro s p answer stored
  have hanswer : putAnswer p = answer := rfl
  refine ⟨fun hready => ?_, fun hready hopen => ?_⟩
  · refine answers_hostFrame (m := [.tariffs, .host]) rfl hready (putTariff_eq p s.device) (setTariffs_keeps _ _) (by decide)
      (by decide) (by decide) ?_
    rintro d rfl hresponded hframe
    exact ⟨putTariffs_stored p s.device.tariffs _ (noteDisplay_tariffs _ _), hresponded, hframe⟩
  · have hserved : handleServicePutPendingTariff p (huntService s.device)
        = (if (putAnswer p).result = .accepted then
              raiseNotice .tariff ((huntService s.device).setTariffs (putTariffs p s.device.tariffs))
            else (huntService s.device).setTariffs (putTariffs p s.device.tariffs),
          some (putAnswer p)) := by
      rw [handleServicePutPendingTariff, changing_open (d := huntService s.device) hopen, noticeTariff, putTariff_eq]
      split <;> rfl
    have hframe : keepsBut [.tariffs, .host] (huntService s.device)
        (if (putAnswer p).result = .accepted then
            raiseNotice .tariff ((huntService s.device).setTariffs (putTariffs p s.device.tariffs))
          else (huntService s.device).setTariffs (putTariffs p s.device.tariffs)) := by
      split
      · exact keepsBut_comp (setTariffs_keeps _ _) (raiseNotice_keeps _ _)
      · exact keepsBut_mono (setTariffs_keeps _ _) (by decide)
    refine answers_serviceFrame (m := [.tariffs, .host, .service]) rfl hready hserved hframe
      (by decide) (by decide) (by decide) ?_
    rintro d rfl hreplied hkept
    refine ⟨putTariffs_stored p s.device.tariffs _ ?_, hreplied, hkept, ?_⟩
    · rw [noteDisplay_tariffs]
      split <;> rfl
    · rw [noteDisplay_host, ← hanswer]
      split <;> rfl

/-! ### REPORT_METROLOGY_TAMPER (R143, R146) -/

/-- A record is held, and no removal takes it (R156). -/
def HeldProtected (r : LogRecord) (d : Device) : Prop :=
  r ∈ d.log.records ∧ protectedRecord d.tamper.sources r = true

theorem addRecord_heldProtected {r : LogRecord} {d : Device} (x : LogData) (h : HeldProtected r d) :
    HeldProtected r (addRecord x d) := by
  obtain ⟨hmem, hprotected⟩ := h
  refine ⟨?_, by rw [(addRecord_keeps x d).tamper]; exact hprotected⟩
  unfold addRecord
  split
  · exact hmem
  · exact List.mem_append_left _ (makeRoom_keeps_protected hmem hprotected)

theorem HeldProtected.frame {r : LogRecord} {l : List Block} {d e : Device} (h : HeldProtected r d) (hframe : keepsBut l d e)
    (hlog : .log ∉ l) (htamper : .tamper ∉ l) : HeldProtected r e := by
  unfold HeldProtected at h ⊢
  rw [hframe.log hlog, hframe.tamper htamper]
  exact h

theorem enterRelay_heldProtected {r : LogRecord} {d : Device} (st : RelayState) (h : HeldProtected r d) :
    HeldProtected r (enterRelay st d) := by
  have hentered : HeldProtected r (if st = .closed then zeroOpenEnergy (d.setRelay { d.relay with state := st })
      else d.setRelay { d.relay with state := st }) := by
    split <;> exact h
  exact addRecord_heldProtected (.relay (relayName st) d.relay.reasons) hentered

theorem reactToReasons_heldProtected {r : LogRecord} {d : Device} (h : HeldProtected r d) :
    HeldProtected r (reactToReasons d) := by
  unfold reactToReasons
  split
  case isFalse => exact h
  split
  · split
    · exact h
    · exact h
  · split
    · exact enterRelay_heldProtected _ h
    · exact h
  · split
    · exact h
    · exact enterRelay_heldProtected _ h
  · exact h

theorem evaluateTamper_heldProtected {r : LogRecord} {d : Device} (h : HeldProtected r d) :
    HeldProtected r (evaluateTamper d) := by
  unfold evaluateTamper setReason setReasons
  split
  · exact h
  · exact reactToReasons_heldProtected h

/-- Where the log has room and a number, the record with which a source latches is the next one, and stays (R146, R156). -/
theorem latchSource_record {x : Source} {detail : Option Byte} {d : Device} (hroom : logRoom 1 d) :
    { number := d.log.next, time := timeMark d, data := LogData.tamper x detail } ∈ (latchSource x detail d).log.records := by
  obtain ⟨hplaces, hnumbers⟩ := hroom
  have hnext : d.log.next < Config.numberEnd := by omega
  have hentry : (latchedEntry x d).record = some d.log.next := if_pos hnext
  rw [latchSource_eq]
  refine (evaluateTamper_heldProtected ?_).1
  refine ⟨?_, ?_⟩
  · change _ ∈ (addRecord (.tamper x detail) d).log.records
    rw [addRecord_log hnext]
    simp
  · refine List.any_eq_true.mpr ⟨latchedEntry x d, ?_, by simp [hentry]; rfl⟩
    exact Vector.mem_toList_iff.mpr (Vector.mem_set (sourceNumber x).isLt)

/-- A detection of a latched source that the window does not exempt is counted alone (R146). -/
theorem detect_of_latched {x : Source} {detail : Option Byte} {d : Device} (hexempt : exempted x d = false)
    (h : (sourceEntry d x).latched = true) :
    detect x detail d = setSource x { sourceEntry d x with count := raiseCount (sourceEntry d x).count } d := by
  simp [detect, hexempt, h]

theorem detect_of_unlatched {x : Source} {detail : Option Byte} {d : Device} (hexempt : exempted x d = false)
    (h : (sourceEntry d x).latched = false) : detect x detail d = latchSource x detail d := by
  simp [detect, hexempt, h]

/-- Settles O44: the request is one detection, answered by the entry that it leaves. -/
theorem metrologyReportDetected : Obligations.MetrologyReportDetected := by
  intro s detail hrun e
  have hready : hostReady [detail] s.device := ⟨hrun, Nat.le_of_ble_eq_true rfl⟩
  have hexempt : exempted .metrology s.device = false := exempted_other (by decide) _
  have hframe := detect_keeps .metrology (some detail) s.device
  refine answers_host rfl hready (e := detect .metrology (some detail) s.device) rfl ?_
  have hentry : ∀ x, sourceEntry (noteDisplay s.device (prepare (accepted (sourceBytes (sourceEntry
      (detect .metrology (some detail) s.device) .metrology))) (detect .metrology (some detail) s.device))) x
      = if x = .metrology then detectedEntry .metrology s.device else sourceEntry s.device x := fun x => by
    rw [sourceEntry_noteDisplay, (prepare_keeps _ _).sourceEntry, sourceEntry_detect]
  have hself := hentry .metrology
  rw [if_pos rfl] at hself
  dsimp only
  rw [hself, noteDisplay_log, noteDisplay_relay, noteDisplay_host]
  refine ⟨detectedEntry_latched hexempt, detectedEntry_action _ _, detectedEntry_count _ _, fun x hx => ?_, ?_, ?_,
    fun hlatched => ⟨?_, ?_, ?_⟩, fun hunlatched => ?_⟩
  · rw [hentry x, if_neg hx]
  · rw [prepare, Device.setHost_host, sourceEntry_detect, if_pos rfl]
  · exact keepsBut_noteDisplay (keepsBut_comp hframe (prepare_keeps _ _))
  · rw [detectedEntry, if_pos (.inr hlatched)]
  · rw [(prepare_keeps _ _).log, detect_of_latched hexempt hlatched]; rfl
  · rw [(prepare_keeps _ _).relay, detect_of_latched hexempt hlatched]; rfl
  · have hidle : (sourceEntry s.device .metrology).latched = false := hunlatched
    have hlatches : detectedEntry .metrology s.device = latchedEntry .metrology s.device :=
      if_neg (by simp [hexempt, hidle])
    rw [hlatches, (prepare_keeps _ _).log, detect_of_unlatched hexempt hunlatched]
    exact ⟨rfl, fun hroom => ⟨if_pos (by obtain ⟨_, hnumbers⟩ := hroom; omega), latchSource_record hroom⟩⟩

end Sys2Proof.Machine
end

section
/-! PROOFS. Reading the log (R157, R159). -/

namespace Sys2Proof.Machine

/-! ### Records in ascending order -/

theorem dueRecords_pairwise {l : Log} (h : (heldNumbers l).Pairwise (· < ·)) (cursor : Nat) :
    (dueRecords cursor l).Pairwise fun a b => a.number < b.number :=
  (List.pairwise_map.mp h).filter _

/-- Distinct numbers from a place on reach at least as far as they are many. -/
theorem length_le_last {xs : List LogRecord} {r : LogRecord} {low : Nat}
    (hasc : xs.Pairwise fun a b => a.number < b.number) (hlow : ∀ a ∈ xs, low ≤ a.number) (hlast : xs.getLast? = some r) :
    low + xs.length ≤ r.number + 1 := by
  induction xs generalizing low with
  | nil => simp at hlast
  | cons x xs ih =>
    have hx := hlow x List.mem_cons_self
    rw [List.pairwise_cons] at hasc
    cases xs with
    | nil =>
      simp only [List.getLast?_singleton, Option.some.injEq] at hlast
      subst hlast
      simpa using hx
    | cons y ys =>
      have hrest := ih (low := x.number + 1) hasc.2 (fun a ha => hasc.1 a ha) (by simpa using hlast)
      simp only [List.length_cons] at hrest ⊢
      omega

theorem le_of_mem_of_last {xs : List LogRecord} {r a : LogRecord} (hasc : xs.Pairwise fun a b => a.number < b.number)
    (hlast : xs.getLast? = some r) (ha : a ∈ xs) : a.number ≤ r.number := by
  obtain ⟨front, rfl⟩ := List.getLast?_eq_some_iff.mp hlast
  rw [List.mem_append, List.mem_singleton] at ha
  rcases ha with hfront | rfl
  · exact ((List.pairwise_append.mp hasc).2.2 a hfront r (List.mem_singleton_self r)).le
  · exact le_rfl

section
variable {l : Log} (hasc : (heldNumbers l).Pairwise (· < ·)) {batch cursor : Nat}
include hasc

/-- What one READ_LOG delivers and what is due after it are the records due before it (R157). -/
theorem dueRecords_split :
    dueRecords cursor l = delivered batch cursor l ++ dueRecords (cursorAfter batch cursor l) l := by
  have hdue := dueRecords_pairwise hasc cursor
  have hsplit : dueRecords cursor l = delivered batch cursor l ++ (dueRecords cursor l).drop batch :=
    (List.take_append_drop batch _).symm
  unfold cursorAfter
  cases hlast : (delivered batch cursor l).getLast? with
  | none =>
    have hempty : delivered batch cursor l = [] := List.getLast?_eq_none_iff.mp hlast
    dsimp only
    rw [hempty, List.nil_append]
  | some r =>
    dsimp only
    have hmem : r ∈ delivered batch cursor l := List.mem_of_getLast? hlast
    have hcursor : cursor ≤ r.number := by
      have hin : r ∈ dueRecords cursor l := List.take_subset _ _ hmem
      simpa using (List.mem_filter.mp hin).2
    rw [hsplit] at hdue
    obtain ⟨hfront, _, hacross⟩ := List.pairwise_append.mp hdue
    have hafter : dueRecords (r.number + 1) l = (dueRecords cursor l).filter fun a => decide (r.number + 1 ≤ a.number) := by
      unfold dueRecords
      rw [List.filter_filter]
      refine List.filter_congr fun a _ => ?_
      rw [Bool.eq_iff_iff]
      simp only [decide_eq_true_eq, Bool.and_eq_true]
      omega
    have hpast : (delivered batch cursor l).filter (fun a => decide (r.number + 1 ≤ a.number)) = [] := by
      refine List.filter_eq_nil_iff.mpr fun a ha => ?_
      have := le_of_mem_of_last hfront hlast ha
      simp only [decide_eq_true_eq]
      omega
    have hrest : ((dueRecords cursor l).drop batch).filter (fun a => decide (r.number + 1 ≤ a.number))
        = (dueRecords cursor l).drop batch := by
      refine List.filter_eq_self.mpr fun a ha => ?_
      have := hacross r hmem a ha
      simp only [decide_eq_true_eq]
      omega
    rw [hafter]
    conv_rhs => rw [hsplit, List.filter_append, hpast, List.nil_append, hrest]
    exact hsplit

/-- The cursor passes at least as many numbers as it delivers records. -/
theorem cursorAfter_ge : cursor + (delivered batch cursor l).length ≤ cursorAfter batch cursor l := by
  have hfront : (delivered batch cursor l).Pairwise fun a b => a.number < b.number :=
    (dueRecords_pairwise hasc cursor).sublist (List.take_sublist _ _)
  have hlow : ∀ a ∈ delivered batch cursor l, cursor ≤ a.number := fun a ha => by
    simpa using (List.mem_filter.mp (List.take_subset _ _ ha)).2
  unfold cursorAfter
  cases hlast : (delivered batch cursor l).getLast? with
  | none => simp [List.getLast?_eq_none_iff.mp hlast]
  | some r => exact length_le_last hfront hlow hlast

theorem cursorAfter_eq :
    cursorAfter batch cursor l = cursor + (delivered batch cursor l).length + skippedCount batch cursor l := by
  have := cursorAfter_ge hasc (batch := batch) (cursor := cursor)
  unfold skippedCount
  omega

end

/-! ### The requests -/

/-- A request at the running meter host port that moves the log alone. -/
theorem answers_hostSetLog {c : Instr} {s : State} {h : Handler} {x : Log} {data : List Byte}
    (hexec : exec c s = takeEvent s (hostServe [] (noParameters [] h))) (hrun : running s.device = true)
    (hserved : h s.device = (s.device.setLog x, accepted data)) :
    answers c s fun d => d.log = x ∧ responded (accepted data) s.device d ∧ keepsBut [.log, .host] s.device d := by
  refine answers_hostFrame (m := [.log, .host]) hexec (hostReady_nil hrun) ((noParameters_nil _ _).trans hserved)
    (setLog_keeps _ _) (by decide) (by decide) (by decide) ?_
  rintro d rfl hresponded hframe
  exact ⟨noteDisplay_log _ _, hresponded, hframe⟩

/-- Settles O35: ascending numbers split the due records at the cursor after a read, and each request is one update of
the log. -/
theorem logReadsMoveTheirOwnCursor : Obligations.LogReadsMoveTheirOwnCursor := by
  refine ⟨fun s hasc => ⟨fun batch cursor _ => ⟨dueRecords_split hasc, ?_, cursorAfter_eq hasc⟩,
    fun hrun => answers_hostSetLog rfl hrun rfl, fun hready => ?_⟩,
    fun s hrun => ⟨answers_hostSetLog rfl hrun rfl, fun m hmark => ?_, fun hnone => ?_⟩⟩
  · exact Nat.le_of_add_right_le (cursorAfter_ge hasc)
  · have hserved : handleServiceReadLog [] (huntService s.device)
        = ((huntService s.device).setLog
              { s.device.log with serviceCursor := cursorAfter 2 s.device.log.serviceCursor s.device.log },
            some (accepted (readLogData 2 s.device.log.serviceCursor s.device.log))) := rfl
    refine answers_serviceFrame (m := [.log, .service]) rfl hready hserved (setLog_keeps _ _) (by decide) (by decide)
      (by decide) ?_
    rintro d rfl hreplied hframe
    exact ⟨noteDisplay_log _ _, hreplied, hframe⟩
  · have hserved : returnHandler s.device = moveHostCursor m s.device := by simp only [returnHandler, hmark]
    exact answers_hostSetLog rfl hrun hserved
  · refine answers_hostOnly rfl (hostReady_nil hrun) ((noParameters_nil _ _).trans ?_)
    simp only [returnHandler, hnone]

end Sys2Proof.Machine
end

section
/-! PROOFS. The response buffer and the bus of the meter host port, and the restart of the working state. -/

namespace Sys2Proof.Machine

/-! ### The response buffer (R163, R164) -/

theorem length_readyBody (a : Answer) : (readyBody a).length = a.data.length + 3 := by
  simp [readyBody]

theorem length_readBytes_ready (a : Answer) : (readBytes (.ready a)).length = a.data.length + 4 := by
  simp [readBytes, length_readyBody]

/-- Past the bytes of a response the port supplies 0xFF (Table 9-1A). -/
theorem hostReadByte_past {b : ResponseBuffer} {k : Nat} (h : (readBytes b).length ≤ k) : hostReadByte b k = 0xFF :=
  List.getD_eq_default _ _ h

theorem sumsToZero_readBytes (a : Answer) : sumsToZero (readBytes (.ready a)) = true := sumsToZero_check _

theorem take_readBytes (a : Answer) : (readBytes (.ready a)).take (a.data.length + 3) = readyBody a := by
  rw [← length_readyBody a, readBytes, List.take_left]

/-! ### Bus transactions (R162) -/

/-- The bytes written in a write transaction are those taken. -/
theorem foldl_writeBusByte {d : Device} (hrun : running d = true) (bytes taken : List Byte) :
    bytes.foldl (fun e c => writeBusByte c e) (setTransaction (.writing taken) d)
      = setTransaction (.writing (taken ++ bytes)) d := by
  induction bytes generalizing taken with
  | nil => simp
  | cons c bytes ih => rw [List.foldl_cons, writeBusByte_writing c hrun, ih, List.append_assoc, List.singleton_append]

/-- The bytes of a read transaction are supplied in order. -/
theorem iterate_clockBusByte {d : Device} (hrun : running d = true) (b : ResponseBuffer) (k n : Nat) :
    (clockBusByte true)^[k] (setTransaction (.reading b n) d) = setTransaction (.reading b (n + k)) d := by
  induction k generalizing n with
  | zero => rfl
  | succ k ih => rw [Function.iterate_succ_apply, clockBusByte_reading hrun, ih, Nat.add_right_comm, Nat.add_assoc]

theorem beginTransaction_own {d : Device} (hrun : running d = true) {address : Byte} (h : address = d.host.address)
    (x : Direction) :
    beginTransaction address x d
      = setTransaction (match x with | .write => .writing [] | .read => .reading d.host.response 0) d := by
  have hknown : acknowledges d address = true := by simp [acknowledges, hrun, h]
  cases x <;> exact if_pos hknown

theorem beginTransaction_other {d : Device} {address : Byte} (h : address ≠ d.host.address) (x : Direction) :
    beginTransaction address x d = d := by
  simp [beginTransaction, acknowledges, h]

/-- At a stop condition the bytes written become the command they spell, taken by the part as it was (R163). -/
theorem stopCondition_written {s : State} (hrun : running s.device = true) (hidle : s.device.host.transaction = .idle)
    (bytes : List Byte) :
    stopCondition { s with device := setTransaction (.writing bytes) s.device }
      = match hostCommand bytes with
        | some i => exec i s
        | none => .next s := by
  have hended : setTransaction .idle s.device = s.device := by
    rw [← hidle]
    exact setTransaction_self s.device
  have harrival : arrivalAtEnd (setTransaction (.writing bytes) s.device) = hostCommand bytes := by
    simp [arrivalAtEnd, hrun]
  cases hcommand : hostCommand bytes <;>
    simp only [stopCondition, harrival, hcommand, setTransaction_setTransaction, hended]

/-- No transaction in progress supplies a byte or brings an arrival. -/
def Abandoned (d : Device) : Prop := d.host.transaction = .idle ∧ arrivalAtEnd d = none ∧ suppliedByte d = none

theorem abandoned_of_idle {d : Device} (h : d.host.transaction = .idle) : Abandoned d :=
  ⟨h, by simp only [arrivalAtEnd, h], by simp only [suppliedByte, h]⟩

/-! ### What a restart leaves of the ports -/

/-- What the two ports hold of requests and responses: aborted codes move only what is reported of them. -/
structure PortsKept (d e : Device) : Prop where
  transaction : e.host.transaction = d.host.transaction
  response : e.host.response = d.host.response
  waiting : e.service.waiting = d.service.waiting
  commissioning : e.service.commissioning = d.service.commissioning

theorem PortsKept.refl (d : Device) : PortsKept d d := ⟨rfl, rfl, rfl, rfl⟩

theorem PortsKept.trans {d e f : Device} (h : PortsKept d e) (k : PortsKept e f) : PortsKept d f :=
  ⟨k.1.trans h.1, k.2.trans h.2, k.3.trans h.3, k.4.trans h.4⟩

theorem PortsKept.of_frame {l : List Block} {d e : Device} (h : keepsBut l d e) (hhost : .host ∉ l := by decide)
    (hservice : .service ∉ l := by decide) : PortsKept d e := by
  refine ⟨?_, ?_, ?_, ?_⟩
  all_goals first | rw [h.host hhost] | rw [h.service hservice]

/-- What keeps the meter host port but for its notices keeps its transaction and its response. -/
theorem PortsKept.of_hostBody {d e : Device} (hhost : hostBody e.host = hostBody d.host) (hservice : e.service = d.service) :
    PortsKept d e := by
  refine ⟨?_, ?_, by rw [hservice], by rw [hservice]⟩
  · exact show (hostBody e.host).transaction = (hostBody d.host).transaction from congrArg HostPort.transaction hhost
  · exact show (hostBody e.host).response = (hostBody d.host).response from congrArg HostPort.response hhost

theorem endTest_portsKept (c : TestCause) (d : Device) : PortsKept d (endTest c d) :=
  .of_hostBody (endTest_laws c d .host (by simp)) (endTest_keeps c d).service

theorem keypadOutcome_portsKept (r : Result) (d : Device) : PortsKept d (keypadOutcome r d) :=
  .of_hostBody (keypadOutcome_laws r d .host (by simp)) (keypadOutcome_keeps r d).service

theorem reportOutcome_portsKept (c : QueuedCode) (r : Result) (f : Option (Digit × Nat)) (d : Device) :
    PortsKept d (reportOutcome c r f d) := by
  unfold reportOutcome
  split
  · exact keypadOutcome_portsKept r d
  · exact ⟨rfl, rfl, rfl, rfl⟩
  · exact ⟨rfl, rfl, rfl, rfl⟩

theorem foldl_reportOutcome_portsKept (l : List QueuedCode) (d : Device) :
    PortsKept d (l.foldl (fun now c => reportOutcome c .aborted none now) d) := by
  induction l generalizing d with
  | nil => exact .refl d
  | cons c l ih => exact (reportOutcome_portsKept c .aborted none d).trans (ih _)

theorem abortCodes_portsKept (d : Device) : PortsKept d (abortCodes d) :=
  (PortsKept.of_frame (setCodes_keeps d _)).trans (foldl_reportOutcome_portsKept _ _)

/-- The part with its test ended and its codes aborted, on its way to a restart. -/
def restartAborted (d : Device) : Device := abortCodes (endTest .restart d)

theorem restartAborted_keeps (d : Device) :
    keepsBut [.intake, .codes, .keypad, .service, .log, .host] d (restartAborted d) :=
  keepsBut_comp (endTest_keeps _ d) (abortCodes_keeps _)

theorem restartAborted_portsKept (d : Device) : PortsKept d (restartAborted d) :=
  (endTest_portsKept _ d).trans (abortCodes_portsKept _)

theorem restartAborted_codes (d : Device) : (restartAborted d).codes = { d.codes with inCheck := none, queue := [] } := by
  rw [restartAborted, abortCodes_codes, (endTest_keeps _ d).codes]

theorem restartAborted_testActive (d : Device) : (restartAborted d).intake.testActive = false := by
  rw [restartAborted, (abortCodes_keeps _).intake, endTest_over]

/-- A restart once the codes are aborted. -/
def restartFrom (e : Device) : Device :=
  let cleared := zeroDemand (e.setKeypad (clearEntry e.keypad))
  let counted := cleared.setLink { cleared.link with parityErrors := 0, framingErrors := 0, badFrames := 0 }
  let unmarked := counted.setLog { counted.log with mark := none }
  unmarked.setHost
    { unmarked.host with badFrames := 0, enabled := BitVec.allOnes 9, notices := noticeSet .restarted }

theorem restart_eq (d : Device) : restart d = restartFrom (restartAborted d) := rfl

theorem restartFrom_portsKept (e : Device) : PortsKept e (restartFrom e) := ⟨rfl, rfl, rfl, rfl⟩

theorem restartFrom_keeps (e : Device) : keepsBut [.keypad, .link, .load, .log, .host] e (restartFrom e) := by
  intro b hb
  cases b
  case keypad | link | load | log | host => exact absurd (by decide) hb
  all_goals rfl

theorem restart_portsKept (d : Device) : PortsKept d (restart d) :=
  (restartAborted_portsKept d).trans (restartFrom_portsKept _)

theorem restart_keeps (d : Device) :
    keepsBut [.intake, .codes, .keypad, .link, .load, .log, .host, .service] d (restart d) :=
  keepsBut_comp (restartAborted_keeps d) (restartFrom_keeps _)

/-- What a restart clears (R171, R189). -/
structure RestartCleared (d e : Device) : Prop where
  test : e.intake.testActive = false
  codes : e.codes = { d.codes with inCheck := none, queue := [] }
  buffer : e.keypad.buffer = []
  step : e.keypad.stepTimer = 0
  page : e.keypad.page = 0
  inactivity : e.keypad.inactivity = 0
  link : linkBody e.link = linkBody { d.link with parityErrors := 0, framingErrors := 0, badFrames := 0 }
  load : e.load = { d.load with slots := Vector.replicate 12 0 }
  mark : e.log.mark = none
  badFrames : e.host.badFrames = 0
  enabled : e.host.enabled = BitVec.allOnes 9
  notices : e.host.notices = noticeSet .restarted

theorem restartFrom_cleared {d e : Device} (hframe : keepsBut [.intake, .codes, .keypad, .service, .log, .host] d e)
    (htest : e.intake.testActive = false) (hcodes : e.codes = { d.codes with inCheck := none, queue := [] }) :
    RestartCleared d (restartFrom e) := by
  refine ⟨htest, hcodes, rfl, rfl, rfl, rfl, ?_, ?_, rfl, rfl, rfl, rfl⟩
  · exact congrArg (fun x : Link => { x with parityErrors := 0, framingErrors := 0, badFrames := 0 }) hframe.linkBody
  · exact congrArg (fun x : Load => { x with slots := Vector.replicate 12 0 }) hframe.load

theorem restart_cleared (d : Device) : RestartCleared d (restart d) :=
  restart_eq d ▸ restartFrom_cleared (restartAborted_keeps d) (restartAborted_testActive d) (restartAborted_codes d)

/-- What is cleared stays so over the answer of a port, and the note of the display. -/
theorem RestartCleared.answered {d e f : Device} (h : RestartCleared d e) (hframe : keepsBut [.host, .service] e f)
    (hbad : f.host.badFrames = e.host.badFrames) (henabled : f.host.enabled = e.host.enabled)
    (hnotices : f.host.notices = e.host.notices) : RestartCleared d f := by
  obtain ⟨h1, h2, h3, h4, h5, h6, h7, h8, h9, h10, h11, h12⟩ := h
  refine ⟨?_, ?_, ?_, ?_, ?_, ?_, hframe.linkBody.trans h7, ?_, ?_, hbad.trans h10, henabled.trans h11, hnotices.trans h12⟩
  · rw [hframe.intake, h1]
  · rw [hframe.codes, h2]
  · rw [hframe.keypad, h3]
  · rw [hframe.keypad, h4]
  · rw [hframe.keypad, h5]
  · rw [hframe.keypad, h6]
  · rw [hframe.load, h8]
  · rw [hframe.log, h9]

theorem RestartCleared.spelled {d e : Device} (h : RestartCleared d e)
    (hframe : keepsBut [.intake, .codes, .keypad, .link, .load, .log, .host, .service] d e) :
    e.intake.testActive = false ∧ e.codes = { d.codes with inCheck := none, queue := [] }
      ∧ e.keypad.buffer = [] ∧ e.keypad.stepTimer = 0 ∧ e.keypad.page = 0 ∧ e.keypad.inactivity = 0
      ∧ linkBody e.link = linkBody { d.link with parityErrors := 0, framingErrors := 0, badFrames := 0 }
      ∧ e.load = { d.load with slots := Vector.replicate 12 0 } ∧ e.log.mark = none
      ∧ e.host.badFrames = 0 ∧ e.host.enabled = BitVec.allOnes 9 ∧ e.host.notices = noticeSet .restarted
      ∧ keepsBut [.intake, .codes, .keypad, .link, .load, .log, .host, .service] d e :=
  ⟨h.test, h.codes, h.buffer, h.step, h.page, h.inactivity, h.link, h.load, h.mark, h.badFrames, h.enabled, h.notices, hframe⟩

/-- Settles O45: the request of either port is the restart, and its answer. -/
theorem restartClearsWorkingState : Obligations.RestartClearsWorkingState := by
  refine fun s => ⟨fun hrun => ?_, fun hready hopen => ?_⟩
  · refine answers_host rfl (hostReady_nil hrun) (noParameters_nil _ _) ?_
    have hports := restart_portsKept s.device
    have hanswered : keepsBut [.host] (restart s.device)
        (noteDisplay s.device (prepare (accepted []) (restart s.device))) :=
      keepsBut_comp (prepare_keeps _ _) (noteDisplay_keeps _ _)
    refine ⟨RestartCleared.spelled ((restart_cleared s.device).answered (keepsBut_mono hanswered (by decide)) ?_ ?_ ?_)
      (keepsBut_comp (restart_keeps s.device) hanswered), ?_, ?_, ?_⟩
    · rw [noteDisplay_host]; rfl
    · rw [noteDisplay_host]; rfl
    · rw [noteDisplay_host]; rfl
    · rw [noteDisplay_host]; rfl
    · rw [hanswered.service]; exact hports.waiting
    · rw [hanswered.service]; exact hports.commissioning
  · have hserved : handleServiceRestart [] (huntService s.device) = (restart (huntService s.device), some (accepted [])) := by
      rw [handleServiceRestart, changing_open (d := huntService s.device) hopen, noParameters_nil]
    refine answers_service rfl hready hserved ?_
    have hports := restart_portsKept (huntService s.device)
    have hcleared : RestartCleared s.device (restart (huntService s.device)) := by
      obtain ⟨h1, h2, h3, h4, h5, h6, h7, h8, h9, h10, h11, h12⟩ := restart_cleared (huntService s.device)
      exact ⟨h1, h2, h3, h4, h5, h6, h7, h8, h9, h10, h11, h12⟩
    have hanswered : keepsBut [.service] (restart (huntService s.device))
        (noteDisplay s.device (replyWith 0x5A (some (accepted [])) (restart (huntService s.device)))) :=
      keepsBut_comp (setService_keeps _ _) (noteDisplay_keeps _ _)
    refine ⟨RestartCleared.spelled (hcleared.answered (keepsBut_mono hanswered (by decide)) ?_ ?_ ?_)
      (keepsBut_comp (keepsBut_comp (n := [.intake, .codes, .keypad, .link, .load, .log, .host, .service])
        (huntService_keeps s.device) (restart_keeps _)) hanswered), ?_, ?_⟩
    · rw [hanswered.host]
    · rw [hanswered.host]
    · rw [hanswered.host]
    · rw [noteDisplay_service]; rfl
    · rw [hanswered.host]; exact hports.response

/-! ### Settling O38 -/

/-- A transaction in progress is abandoned with its port (R162, R177, R186). -/
theorem answers_abandoned {c : Instr} {s : State} {f : Device → Device} (hexec : exec c s = takeEvent s f)
    (h : (f s.device).host.transaction = .idle) : answers c s Abandoned :=
  answers_of_takeEvent hexec (abandoned_of_idle (by rw [noteDisplay_host]; exact h))

/-- A response in preparation becomes READY (R164). -/
theorem exec_responseCompletion {s : State} {a : Answer} (hrun : running s.device = true)
    (ha : s.device.host.response = .preparing a) :
    exec .responseCompletion s
      = takeEvent s fun _ => s.device.setHost { s.device.host with response := .ready a } := by
  show execResponseCompletion s = _
  unfold execResponseCompletion
  rw [takeEvent_eq, takeEvent_eq]
  simp only [hrun, ha]

theorem loseMains_host (d : Device) : (loseMains d).host = { (lossCleared d).host with transaction := .idle } := by
  rw [loseMains_eq, (stopMainsLines_keeps _).host, (zeroDemand_keeps _).host, (abandonOperation_keeps _).host]
  rfl

theorem enterInitializing_transaction (d : Device) : (enterInitializing d).host.transaction = .idle := rfl

theorem assertReset_transaction {d : Device} (halive : alive d = true) : (assertReset d).host.transaction = .idle := by
  unfold assertReset
  dsimp only
  rw [if_neg (by simp [halive])]
  split <;> exact enterInitializing_transaction _

/-- Settles O38: the bytes of the buffer, the bytes of the bus, and what ends a transaction. -/
theorem badFramesAndReadsOfTheBuffer : Obligations.BadFramesAndReadsOfTheBuffer := by
  refine ⟨fun s code hrun => ⟨?_, fun hcode => ?_, fun a ha => ?_⟩,
    fun a => ⟨sumsToZero_readBytes a, length_readBytes_ready a, take_readBytes a,
      fun k hk => hostReadByte_past ((length_readBytes_ready a).le.trans hk), rfl, rfl,
      fun k hk => ⟨hostReadByte_past hk, hostReadByte_past hk⟩⟩,
    fun s address bytes hrun hidle => ⟨fun hother => beginTransaction_other hother, fun hown => ?_⟩,
    fun s => ⟨fun hrun => ⟨?_, ?_⟩, fun halive hreset => ?_, fun halive => ?_⟩⟩
  · refine answers_of_takeEvent rfl ?_
    rw [if_pos hrun]
    exact ⟨noteDisplay_host _ _, keepsBut_noteDisplay (keepsBut_trans (setHost_keeps _ _) (prepare_keeps _ _))⟩
  · refine answers_of_takeEvent (c := .hostUnknownRequest code) rfl ?_
    rw [if_pos ⟨hrun, hcode⟩]
    exact ⟨noteDisplay_host _ _, keepsBut_noteDisplay (prepare_keeps _ _)⟩
  · refine answers_of_takeEvent (exec_responseCompletion hrun ha) ?_
    exact ⟨noteDisplay_host _ _, keepsBut_noteDisplay (setHost_keeps _ _)⟩
  · have hwritten : bytes.foldl (fun d c => writeBusByte c d) (beginTransaction address .write s.device)
        = setTransaction (.writing bytes) s.device := by
      rw [beginTransaction_own hrun hown]
      exact foldl_writeBusByte hrun bytes []
    have hread : ∀ k, (clockBusByte true)^[k] (beginTransaction address .read s.device)
        = setTransaction (.reading s.device.host.response k) s.device := fun k => by
      rw [beginTransaction_own hrun hown]
      exact (iterate_clockBusByte hrun _ k 0).trans (by rw [Nat.zero_add])
    rw [hwritten]
    refine ⟨?_, fun i hi => ?_, fun hempty => ?_, fun k => ?_⟩
    · simp [acknowledgesByte, hrun]
    · rw [stopCondition_written hrun hidle, hi]
    · rw [stopCondition_written hrun hidle, hempty]
      rfl
    · rw [hread k]
      simp [suppliedByte, hrun]
  · refine answers_abandoned rfl ?_
    rw [if_pos hrun, loseMains_host]
  · refine answers_host rfl (hostReady_nil hrun) (noParameters_nil _ _) ?_
    rw [noteDisplay_host]
    exact (restart_portsKept s.device).transaction
  · refine answers_abandoned (f := fun d => if d.power.resetAsserted then d else assertReset d) rfl ?_
    rw [if_neg (by simp [hreset])]
    exact assertReset_transaction halive
  · refine answers_abandoned rfl ?_
    rw [if_pos halive]
    rfl

end Sys2Proof.Machine
end

section
/-! PROOFS. O11, O4 and O5: the debit rule and the top-up, and an import quantum under charging routing. -/

namespace Sys2Proof.Machine

/-! ### Settling O11 -/

/-- The three parts of a top-up (R31). -/
theorem toppedUpAccount_parts (n : Nat) {a : Account} (h : a.recoveryPercent ≤ 100) :
    n = topUpRepaid n a + topUpRecovered n a + topUpCredited n a ∧ topUpRepaid n a ≤ a.emergency
      ∧ topUpRecovered n a ≤ a.debt := by
  have hsplit := topUp_split n h
  refine ⟨?_, Nat.min_le_right _ _, Nat.min_le_right _ _⟩
  unfold topUpCredited
  omega

/-- A debit within the floor of the balance (R26). -/
theorem debitedAccount_within {k : Nat} {a : Account} (h : -99999999 ≤ a.balance - k) :
    debitedAccount k a = { a with charged := rollLifetime a.charged k, balance := a.balance - k } :=
  if_pos h

/-- A debit beyond the floor of the balance (R26). -/
theorem debitedAccount_beyond {k : Nat} {a : Account} (h : a.balance - k < -99999999) :
    debitedAccount k a
      = { a with
          charged := rollLifetime a.charged k, balance := -(Config.moneyTop : Int),
          debt := min (a.debt + ((k : Int) - (a.balance + Config.moneyTop)).toNat) Config.moneyTop } :=
  if_neg (Int.not_le.mpr h)

/-- What a debit leaves of the account, whatever its amount (R26). -/
theorem debitedAccount_frame (k : Nat) (a : Account) :
    (debitedAccount k a).charged = (a.charged + k) % 1000000000000 ∧ (debitedAccount k a).emergency = a.emergency
      ∧ (debitedAccount k a).recoveryPercent = a.recoveryPercent ∧ (debitedAccount k a).purchased = a.purchased := by
  unfold debitedAccount
  split <;> exact ⟨rfl, rfl, rfl, rfl⟩

/-- Settles O11: the accounts of a debit and of a top-up, and their frames. -/
theorem debitsAndTopUpsMoveMoneyExactly : Obligations.DebitsAndTopUpsMoveMoneyExactly := by
  refine ⟨fun k why d hk _ _ => ?_, fun n d hpercent => ?_⟩
  · obtain ⟨hcharged, hemergency, hpercent, hpurchased⟩ := debitedAccount_frame k d.account
    simp only [debit_account hk.ne']
    refine ⟨hcharged, fun hwithin => ?_, fun hbeyond => ?_, trivial, hemergency, hpercent, hpurchased, debit_keeps k why d⟩
    · rw [debitedAccount_within hwithin]
      exact ⟨rfl, rfl⟩
    · rw [debitedAccount_beyond hbeyond]
      refine ⟨rfl, ?_⟩
      simp only [Config.moneyTop]
      omega
  · obtain ⟨hsum, hrepaid, hrecovered⟩ := toppedUpAccount_parts n hpercent
    simp only [topUp_account]
    exact ⟨topUpRepaid n d.account, topUpRecovered n d.account, topUpCredited n d.account, hsum, rfl, rfl,
      Nat.sub_add_cancel hrepaid, Nat.sub_add_cancel hrecovered, rfl, rfl, trivial, topUp_keeps n d⟩

/-! ### An import quantum under charging routing -/

/-- A hand-off to the open-reason set never closes the relay (Table 6-3). -/
theorem setReasons_closed {r : Reasons} {d : Device} (h : (setReasons r d).relay.state = .closed) :
    d.relay.state = .closed := by
  by_cases hr : r = d.relay.reasons
  · simpa [setReasons, hr] using h
  cases hrun : running d
  · rw [setReasons_relay_off hrun] at h; exact h
  · rw [setReasons_of_ne hr, reactToReasons_relay (d := d.setRelay { d.relay with reasons := r }) hrun] at h
    cases hstate : d.relay.state <;> cases hempty : r.isEmpty <;>
      simp_all [reactedState, settledOn, startAttempt]

/-- The Account Unit's re-evaluation never closes the relay. -/
theorem recomputeCredit_closed {d : Device} (h : (recomputeCredit d).relay.state = .closed) :
    d.relay.state = .closed := by
  have hstate : (recomputeCreditState d).relay = d.relay := by
    unfold recomputeCreditState
    dsimp only
    split
    · rfl
    · rw [raiseNotice_relay, addRecord_relay]; rfl
  rw [← hstate]
  unfold recomputeCredit recomputeCreditReason at h
  split at h
  · exact h
  · exact setReasons_closed h

theorem debit_closed {k : Nat} {w : DebitReason} {d : Device} (h : (debit k w d).relay.state = .closed) :
    d.relay.state = .closed := by
  unfold debit at h
  split at h
  · exact h
  · have hclosed := recomputeCredit_closed h
    rwa [show ∀ n e, (recordDiscard n w e).relay = e.relay from fun n e => (recordDiscard_keeps n w e).relay] at hclosed

/-- What the counting, the charging and the demand window make of a quantum (R7, R8, R13, R128). -/
def measured (band price : Nat) (d : Device) : Device := countDemand (chargeQuantum price (countEnergy band d))

/-- What the energy-while-open accumulator makes of a quantum (R10). -/
def watched (d : Device) : Device := if d.relay.state = .closed then d else countOpenEnergy d

theorem chargingRouting_eq (openFirst : Bool) (d : Device) :
    chargingRouting openFirst d
      = if openFirst then measured (bandInForce d) (priceOf d (bandInForce d)) (watched d)
        else if d.relay.state = .closed then measured (bandInForce d) (priceOf d (bandInForce d)) d
        else countOpenEnergy (measured (bandInForce d) (priceOf d (bandInForce d)) d) := rfl

/-- The account that a quantum of a price leaves (R13, R26). -/
theorem chargeQuantum_account (price : Nat) (d : Device) :
    (chargeQuantum price d).account
      = if (d.residue + price) / 10000 = 0 then d.account
        else { debitedAccount ((d.residue + price) / 10000) d.account with
          creditState :=
            creditStateOf (debitedAccount ((d.residue + price) / 10000) d.account).balance d.settings.lowLevel } := by
  unfold chargeQuantum
  dsimp only [Config.residueUnits]
  by_cases hzero : (d.residue + price) / 10000 = 0
  · rw [hzero, debit_zero]
    rfl
  · rw [if_neg hzero, debit_account hzero]
    rfl

theorem chargeQuantum_keeps (price : Nat) (d : Device) :
    keepsBut [.residue, .account, .relay, .log, .host] d (chargeQuantum price d) :=
  keepsBut_comp (setResidue_keeps d _) (debit_keeps _ _ _)

theorem chargeQuantum_residue (price : Nat) (d : Device) :
    (chargeQuantum price d).residue = (d.residue + price) % 10000 :=
  (debit_keeps _ _ (d.setResidue ((d.residue + price) % 10000))).residue

theorem chargeQuantum_closed {price : Nat} {d : Device} (h : (chargeQuantum price d).relay.state = .closed) :
    d.relay.state = .closed :=
  debit_closed (d := d.setResidue ((d.residue + price) % Config.residueUnits)) h

/-- Everything but the energy-while-open accumulator that a quantum moves. -/
structure Measured (band price : Nat) (d e : Device) : Prop where
  residue : e.residue = (d.residue + price) % 10000
  account : e.account
    = if (d.residue + price) / 10000 = 0 then d.account
      else { debitedAccount ((d.residue + price) / 10000) d.account with
        creditState :=
          creditStateOf (debitedAccount ((d.residue + price) / 10000) d.account).balance d.settings.lowLevel }
  intake : e.intake = (countEnergy band d).intake
  load : e.load = (countDemand d).load
  closed : e.relay.state = .closed → d.relay.state = .closed
  frame : keepsBut [.intake, .residue, .account, .load, .relay, .log, .host] d e

theorem measured_spec (band price : Nat) (d : Device) : Measured band price d (measured band price d) := by
  have hcharged := chargeQuantum_keeps price (countEnergy band d)
  have hcounted : keepsBut [.intake] d (countEnergy band d) := setIntake_keeps d _
  have hdemand := countDemand_keeps (chargeQuantum price (countEnergy band d))
  refine ⟨?_, ?_, ?_, ?_, fun hclosed => ?_,
    keepsBut_comp (keepsBut_comp (n := [.intake, .residue, .account, .relay, .log, .host])
    hcounted hcharged) hdemand⟩
  · exact hdemand.residue.trans (chargeQuantum_residue _ _)
  · exact hdemand.account.trans (chargeQuantum_account _ _)
  · exact hdemand.intake.trans hcharged.intake
  · simp only [measured, countDemand, Device.setLoad_load, hcharged.load, hcounted.load]
  · rw [measured, hdemand.relay] at hclosed
    rw [← hcounted.relay]
    exact chargeQuantum_closed hclosed

/-- The energy-while-open accumulator after one more quantum (R10). -/
def openEnergyAfter (d : Device) : Nat :=
  if d.intake.openEnergy + 1 < d.tamper.bypassThreshold then d.intake.openEnergy + 1 else 0

/-- A detection of BYPASS, which no window exempts: raised and latched, the other sources standing (R146). -/
structure BypassDetected (d e : Device) : Prop where
  latched : (sourceEntry e .bypass).latched = true
  count : (sourceEntry e .bypass).count = raiseCount (sourceEntry d .bypass).count
  others : ∀ x, x ≠ Source.bypass → sourceEntry e x = sourceEntry d x

theorem detect_bypass (d : Device) : BypassDetected d (detect .bypass none d) where
  latched := by
    rw [sourceEntry_detect, if_pos rfl]
    exact detectedEntry_latched (exempted_other (by decide) d)
  count := by rw [sourceEntry_detect, if_pos rfl, detectedEntry_count]
  others x hx := by rw [sourceEntry_detect, if_neg hx]

theorem BypassDetected.congr {d e f g : Device} (h : BypassDetected d e) (hbefore : f.tamper = d.tamper)
    (hafter : g.tamper = e.tamper) : BypassDetected f g := by
  have hf : ∀ x, sourceEntry f x = sourceEntry d x := fun x => by simp only [sourceEntry, hbefore]
  have hg : ∀ x, sourceEntry g x = sourceEntry e x := fun x => by simp only [sourceEntry, hafter]
  exact ⟨(congrArg _ (hg _)).trans h.latched, by rw [hg, hf, h.count], fun x hx => by rw [hg, hf, h.others x hx]⟩

/-- What the energy-while-open accumulator moves while the relay is not CLOSED (R10, R146). -/
structure Watched (d e : Device) : Prop where
  intake : e.intake = { d.intake with openEnergy := openEnergyAfter d }
  below : d.intake.openEnergy + 1 < d.tamper.bypassThreshold → e.tamper = d.tamper
  reached : d.tamper.bypassThreshold ≤ d.intake.openEnergy + 1 →
    BypassDetected d e
  frame : keepsBut [.intake, .tamper, .relay, .log, .host] d e

theorem countOpenEnergy_spec {d : Device} (h : d.relay.state ≠ .closed) : Watched d (countOpenEnergy d) := by
  unfold countOpenEnergy
  rw [if_neg h]
  dsimp only
  split
  case isTrue hreached =>
    refine ⟨?_, fun hbelow => absurd hbelow (Nat.not_lt.mpr hreached),
      fun _ => (detect_bypass (zeroOpenEnergy d)).congr rfl rfl, keepsBut_comp (zeroOpenEnergy_keeps d) (detect_keeps _ _ _)⟩
    rw [detect_intake, openEnergyAfter, if_neg (Nat.not_lt.mpr hreached)]
    rfl
  case isFalse hbelow =>
    refine ⟨?_, fun _ => rfl, fun hreached => absurd hreached hbelow, keepsBut_mono (setIntake_keeps d _) (by decide)⟩
    rw [openEnergyAfter, if_pos (Nat.not_le.mp hbelow)]
    rfl

/-- A quantum under charging routing, whichever of its hand-offs comes first (log 32). -/
structure Charged (band price : Nat) (d e : Device) : Prop where
  residue : e.residue = (d.residue + price) % 10000
  account : e.account
    = if (d.residue + price) / 10000 = 0 then d.account
      else { debitedAccount ((d.residue + price) / 10000) d.account with
        creditState :=
          creditStateOf (debitedAccount ((d.residue + price) / 10000) d.account).balance d.settings.lowLevel }
  intake : e.intake
    = { (countEnergy band d).intake with
        openEnergy := if d.relay.state = .closed then d.intake.openEnergy else openEnergyAfter d }
  load : e.load = (countDemand d).load
  stands : d.relay.state = .closed ∨ d.intake.openEnergy + 1 < d.tamper.bypassThreshold → e.tamper = d.tamper
  reached : d.relay.state ≠ .closed → d.tamper.bypassThreshold ≤ d.intake.openEnergy + 1 →
    BypassDetected d e
  frame : keepsBut [.intake, .residue, .account, .load, .tamper, .relay, .log, .host] d e

theorem Measured.charged_closed {band price : Nat} {d e : Device} (h : Measured band price d e)
    (hclosed : d.relay.state = .closed) : Charged band price d e where
  residue := h.residue
  account := h.account
  intake := by rw [h.intake, if_pos hclosed]; rfl
  load := h.load
  stands _ := h.frame.tamper
  reached hopen := absurd hclosed hopen
  frame := keepsBut_mono h.frame (by decide)

/-- The energy-while-open hand-off last. -/
theorem Measured.charged_watched {band price : Nat} {d e f : Device} (h : Measured band price d e) (k : Watched e f)
    (hopen : d.relay.state ≠ .closed) : Charged band price d f where
  residue := k.frame.residue.trans h.residue
  account := k.frame.account.trans h.account
  intake := by
    rw [k.intake, h.intake, if_neg hopen]
    simp only [openEnergyAfter, h.frame.tamper, h.intake]
    rfl
  load := k.frame.load.trans h.load
  stands hbelow := by
    have hstands := k.below
    rw [h.frame.tamper, h.intake] at hstands
    exact hstands (hbelow.resolve_left hopen)
  reached _ hreached := by
    have hdetected := k.reached
    rw [h.frame.tamper, h.intake] at hdetected
    exact (hdetected hreached).congr h.frame.tamper.symm rfl
  frame := keepsBut_comp h.frame k.frame

/-- The energy-while-open hand-off first. -/
theorem Watched.charged_measured {band price : Nat} {d e f : Device} (h : Watched d e) (k : Measured band price e f)
    (hopen : d.relay.state ≠ .closed) : Charged band price d f where
  residue := by rw [k.residue, h.frame.residue]
  account := by rw [k.account, h.frame.residue, h.frame.account, h.frame.settings]
  intake := by
    rw [k.intake, if_neg hopen]
    simp only [countEnergy, Device.setIntake_intake, h.intake]
  load := by
    rw [k.load]
    simp only [countDemand, Device.setLoad_load, h.frame.load]
  stands hbelow := k.frame.tamper.trans (h.below (hbelow.resolve_left hopen))
  reached _ hreached := (h.reached hreached).congr rfl k.frame.tamper
  frame := keepsBut_comp h.frame k.frame

theorem chargingRouting_spec (openFirst : Bool) (d : Device) :
    Charged (bandInForce d) (priceOf d (bandInForce d)) d (chargingRouting openFirst d) := by
  rw [chargingRouting_eq]
  by_cases hclosed : d.relay.state = .closed
  · simp only [watched, if_pos hclosed, ite_self]
    exact (measured_spec _ _ d).charged_closed hclosed
  · rw [watched, if_neg hclosed, if_neg hclosed]
    cases openFirst
    · have hmeasured := measured_spec (bandInForce d) (priceOf d (bandInForce d)) d
      exact hmeasured.charged_watched (countOpenEnergy_spec fun h => hclosed (hmeasured.closed h)) hclosed
    · exact (countOpenEnergy_spec hclosed).charged_measured (measured_spec _ _ _) hclosed

/-! ### Settling O4 and O5 -/

/-- The part as the routing finds it at an arrival: the line high, the filter waiting again (R1). -/
def arrived (p : Phase) (d : Device) : Device := setFilter p .waiting (setPulseLine p .high d)

theorem exec_pulseArrival_low {s : State} {p : Phase} (openFirst : Bool) (hrun : running s.device = true)
    (harmed : s.device.intake.filters[p] = .armed) (htest : s.device.intake.testActive = false) :
    exec (.pulseArrival p .low openFirst) s = takeEvent s fun d => chargingRouting openFirst (arrived p d) := by
  have hguard : running s.device = true ∧ s.device.intake.filters[p] = .armed := ⟨hrun, harmed⟩
  have hroute : routeQuantum p .low openFirst (setFilter p .waiting (setPulseLine p .high s.device))
      = chargingRouting openFirst (arrived p s.device) := by
    have htest' : (setFilter p .waiting (setPulseLine p .high s.device)).intake.testActive = false := htest
    exact if_neg (by simp [htest'])
  simp only [exec_pulseArrival, execPulseArrival, takeEvent_eq, if_pos hguard, hroute]

/-- Settles O4: counting, charging and the demand window take the quantum in either order of the hand-offs. -/
theorem importQuantumCharged : Obligations.ImportQuantumCharged := by
  intro s p openFirst b hb hrun harmed htest hband
  have h := chargingRouting_spec openFirst (arrived p s.device)
  rw [show bandInForce (arrived p s.device) = b from hband] at h
  refine answers_of_takeEvent (exec_pulseArrival_low openFirst hrun harmed htest) ?_
  refine ⟨?_, ?_, ?_, ?_, ?_, ?_⟩
  · rw [noteDisplay_residue]; exact h.residue
  · rw [noteDisplay_account]; exact h.account
  · rw [noteDisplay_intake, h.intake]
    simp only [countEnergy, dif_pos hb]
    rfl
  · rw [noteDisplay_load, h.load]; rfl
  · rw [noteDisplay_tamper]; exact h.stands
  · exact keepsBut_noteDisplay (keepsBut_comp (setIntake_keeps s.device _) h.frame)

/-- Settles O5: short of the threshold the accumulator alone moves; at it, BYPASS is detected. -/
theorem openEnergyWatchesBypass : Obligations.OpenEnergyWatchesBypass := by
  intro s p openFirst hrun harmed htest hopen
  have h := chargingRouting_spec openFirst (arrived p s.device)
  have hintake : (chargingRouting openFirst (arrived p s.device)).intake.openEnergy
      = openEnergyAfter (arrived p s.device) := by
    rw [h.intake, if_neg (show (arrived p s.device).relay.state ≠ .closed from hopen)]
  refine ⟨fun hbelow => ?_, fun hreached => ?_⟩
  · refine answers_of_takeEvent (exec_pulseArrival_low openFirst hrun harmed htest) ⟨?_, ?_⟩
    · rw [noteDisplay_intake, hintake]
      exact if_pos hbelow
    · rw [noteDisplay_tamper]
      exact h.stands (.inr hbelow)
  · obtain ⟨hlatched, hcount, hothers⟩ := h.reached hopen hreached
    refine answers_of_takeEvent (exec_pulseArrival_low openFirst hrun harmed htest) ⟨?_, ?_, ?_, fun x hx => ?_⟩
    · rw [noteDisplay_intake, hintake]
      exact if_neg (Nat.not_lt.mpr hreached)
    · rw [sourceEntry_noteDisplay]; exact hlatched
    · rw [sourceEntry_noteDisplay]; exact hcount
    · rw [sourceEntry_noteDisplay]; exact hothers x hx

end Sys2Proof.Machine
end

section
/-! PROOFS. O7 and O8: what the parts of a second tick move and leave, and the ticks that end a timer. -/

namespace Sys2Proof.Machine

/-! ### What the parts of a tick move -/

theorem minuteTested_keeps (day : Bool) (d : Device) :
    keepsBut [.intake, .account, .clock, .tariffs, .relay, .log, .host] d (minuteTested day d) := by
  have hprocessed : keepsBut [.intake, .account, .clock, .relay, .log, .host] d (minuteProcessed day d) := by
    unfold minuteProcessed
    split
    · exact keepsBut_mono (dayProcessing_keeps d) (by decide)
    · exact keepsBut_refl _ _
  unfold minuteTested
  split
  · exact keepsBut_comp hprocessed (activationTest_keeps _)
  · exact keepsBut_mono hprocessed (by decide)

theorem minuteStep_keeps (day : Bool) (d : Device) :
    keepsBut [.intake, .account, .clock, .tariffs, .codes, .keypad, .relay, .log, .host] d (minuteStep day d) := by
  rw [minuteStep_eq]
  have htested := keepsBut_comp (n := [.intake, .account, .clock, .tariffs, .relay, .log, .host])
    (minuteTested_keeps day d) (recomputeCreditReason_keeps _)
  have hwindow := keepsBut_comp (n := [.intake, .account, .clock, .tariffs, .codes, .relay, .log, .host]) htested
    (windowMinute_keeps _)
  exact keepsBut_comp hwindow (setKeypad_keeps _ _)

/-- The blocks that a part of a tick moves. -/
def partBlocks : TickPart → List Block
  | .boundary => [.intake, .account, .clock, .tariffs, .codes, .keypad, .relay, .log, .host]
  | .slot => [.load, .relay, .log, .host]
  | .backoff => [.relay, .log, .host]
  | .test => [.intake, .log, .host]
  | .presence => [.link, .tamper, .relay, .log, .host]

theorem tickPart_keeps (before : Device) (p : TickPart) (d : Device) :
    keepsBut (partBlocks p) d (tickPart before p d) := by
  have hite : ∀ {l : List Block} {c : Bool} {e : Device}, keepsBut l d e → keepsBut l d (if c = true then e else d) := by
    intro l c e h
    cases c
    · exact keepsBut_refl _ _
    · exact h
  cases p with
  | boundary => exact hite (minuteStep_keeps _ d)
  | slot => exact hite (slotStep_keeps d)
  | backoff =>
    show keepsBut _ d (backoffStep _ d)
    unfold backoffStep
    split
    · exact setReason_keeps _ _ d
    · exact keepsBut_refl _ _
  | test =>
    show keepsBut _ d (testStep d)
    unfold testStep
    split
    · exact endTest_keeps _ d
    · exact keepsBut_refl _ _
  | presence =>
    refine hite ?_
    unfold presenceStep
    split
    · exact keepsBut_comp (setLink_keeps d _) (detect_keeps _ _ _)
    · exact keepsBut_refl _ _

/-! ### Fields through the parts of a tick -/

theorem activationTest_clock (d : Device) : (activationTest d).clock = d.clock := (activationTest_keeps d).clock

theorem minuteTested_time (day : Bool) (d : Device) :
    (minuteTested day d).clock.now = d.clock.now ∧ (minuteTested day d).clock.isSet = d.clock.isSet := by
  have hprocessed : (minuteProcessed day d).clock.now = d.clock.now
      ∧ (minuteProcessed day d).clock.isSet = d.clock.isSet := by
    unfold minuteProcessed
    split
    · exact dayProcessing_clock d
    · exact ⟨rfl, rfl⟩
  unfold minuteTested
  split
  · rw [activationTest_clock]; exact hprocessed
  · exact hprocessed

theorem minuteStep_clock (day : Bool) (d : Device) : (minuteStep day d).clock = (minuteTested day d).clock := by
  have hafter : keepsBut [.codes, .intake, .keypad, .relay, .log, .host] (minuteTested day d) (minuteStep day d) :=
    keepsBut_comp (keepsBut_comp (n := [.codes, .intake, .relay, .log, .host]) (recomputeCreditReason_keeps _)
      (windowMinute_keeps _)) (setKeypad_keeps _ _)
  exact hafter.clock

/-- No part of a tick moves meter time or the time state. -/
theorem tickPart_time (before : Device) (p : TickPart) (d : Device) :
    (tickPart before p d).clock.now = d.clock.now ∧ (tickPart before p d).clock.isSet = d.clock.isSet := by
  have hframe := tickPart_keeps before p d
  cases p with
  | boundary =>
    unfold tickPart
    dsimp only
    split
    · rw [minuteStep_clock]; exact minuteTested_time _ d
    · exact ⟨rfl, rfl⟩
  | slot | backoff | test | presence => rw [hframe.clock]; exact ⟨rfl, rfl⟩

/-- Of Keypad Entry a tick's parts move the lockout alone, and only at a minute boundary. -/
theorem tickPart_keypad (before : Device) (p : TickPart) (d : Device) :
    (tickPart before p d).keypad
      = if p = .boundary ∧ minuteNext before = true then { d.keypad with lockout := d.keypad.lockout - 1 }
        else d.keypad := by
  have hframe := tickPart_keeps before p d
  cases p with
  | boundary =>
    unfold tickPart
    dsimp only
    have hbefore : (windowMinute (recomputeCreditReason (minuteTested (dayNext before) d))).keypad = d.keypad := by
      rw [(windowMinute_keeps _).keypad, (recomputeCreditReason_keeps _).keypad, (minuteTested_keeps _ d).keypad]
    cases minuteNext before
    · simp
    · simp only [if_true, and_self]
      rw [minuteStep_eq, lockoutMinute, Device.setKeypad_keypad, hbefore]
  | slot | backoff | test | presence =>
    rw [if_neg (by simp)]
    exact hframe.keypad

theorem endTest_intake (c : TestCause) (d : Device) : (endTest c d).intake = { d.intake with testActive := false } := by
  unfold endTest
  split
  · rw [addRecord_intake]; rfl
  case isFalse h => rw [← Bool.not_eq_true _ |>.mp h]

/-! ### The whole tick -/

/-- What the count of a second establishes and no part of the tick undoes holds after it. -/
theorem secondStep_stands {d : Device} (halive : alive d = true) {S : Device → Prop}
    (hnote : ∀ e f, S f → S (noteDisplay e f)) (hcount : S (countSecond d)) (hpart : ∀ e p, S e → S (tickPart d p e))
    (order : List TickPart) : S (secondStep order d) := by
  unfold secondStep
  rw [if_pos halive]
  exact List.foldlRecOn order (notedPart d) (hnote _ _ hcount) fun e he p _ => hnote _ _ (hpart e p he)

/-- The part taken first is taken of the part as its second was counted. -/
theorem tickOrder_first (q : TickPart) : ∃ rest, tickOrder [q] = q :: rest ∧ q ∉ rest := by
  cases q <;> exact ⟨_, rfl, by decide⟩

/-- What the part taken first establishes and no other undoes holds after the tick. -/
theorem secondStep_first {d : Device} (halive : alive d = true) {S : Device → Prop}
    (hnote : ∀ e f, S f → S (noteDisplay e f)) {q : TickPart}
    (hfirst : S (tickPart d q (noteDisplay d (countSecond d)))) (hrest : ∀ e p, p ≠ q → S e → S (tickPart d p e)) :
    S (secondStep (tickOrder [q]) d) := by
  obtain ⟨rest, horder, hnot⟩ := tickOrder_first q
  unfold secondStep
  rw [if_pos halive, horder]
  exact List.foldlRecOn rest (notedPart d) (hnote _ _ hfirst) fun e he p hp =>
    hnote _ _ (hrest e p (fun h => hnot (h ▸ hp)) he)

theorem countSecond_frame (d : Device) : keepsBut [.clock, .intake, .link, .keypad, .load] d (noteDisplay d (countSecond d)) :=
  keepsBut_noteDisplay (countSecond_keeps d)

/-! ### Settling O7 -/

/-- The blocks of O7's frame. -/
def tickBlocks : List Block :=
  [.intake, .account, .clock, .tariffs, .codes, .keypad, .link, .relay, .load, .tamper, .log, .host]

theorem secondStep_keeps {d : Device} (halive : alive d = true) (order : List TickPart) :
    keepsBut tickBlocks d (secondStep order d) :=
  secondStep_stands halive (S := keepsBut tickBlocks d)
    (fun e f h => keepsBut_trans h (keepsBut_mono (noteDisplay_keeps e f) (by decide)))
    (keepsBut_mono (countSecond_keeps d) (by decide))
    (fun e p h => keepsBut_comp h (keepsBut_mono (m := tickBlocks) (tickPart_keeps d p e) (by cases p <;> decide))) order

theorem secondStep_time {d : Device} (halive : alive d = true) (order : List TickPart) :
    (secondStep order d).clock.now = advanceTime d.clock.now ∧ (secondStep order d).clock.isSet = d.clock.isSet := by
  refine secondStep_stands halive
    (S := fun e => e.clock.now = advanceTime d.clock.now ∧ e.clock.isSet = d.clock.isSet) (fun e f h => ?_) ?_
    (fun e p h => ?_) order
  · rwa [noteDisplay_clock]
  · rw [countSecond_clock]; exact ⟨rfl, rfl⟩
  · obtain ⟨hnow, hset⟩ := tickPart_time d p e
    rw [hnow, hset]; exact h

theorem keypadSecond_lockout (k : Keypad) : (keypadSecond k).lockout = k.lockout := by
  unfold keypadSecond
  dsimp only
  split <;> rfl

theorem tickPart_codes_within {before : Device} (h : minuteNext before = false) (p : TickPart) (d : Device) :
    (tickPart before p d).codes = d.codes := by
  have hframe := tickPart_keeps before p d
  cases p with
  | boundary => simp [tickPart, h]
  | slot | backoff | test | presence => exact hframe.codes

theorem tickPart_load_within {before : Device} (h : slotNext before = false) (p : TickPart) (d : Device) :
    (tickPart before p d).load = d.load := by
  have hframe := tickPart_keeps before p d
  cases p with
  | slot => simp [tickPart, h]
  | boundary | backoff | test | presence => exact hframe.load

/-- A tick at which meter time holds is no boundary (R47). -/
theorem secondStep_held {d : Device} (halive : alive d = true) (hheld : advanceTime d.clock.now = d.clock.now)
    (order : List TickPart) :
    (secondStep order d).codes = d.codes ∧ (secondStep order d).keypad.lockout = d.keypad.lockout
      ∧ (secondStep order d).load.slots = d.load.slots := by
  have hminute : minuteNext d = false := by simp [minuteNext, hheld]
  have hslot : slotNext d = false := by simp [slotNext, hheld]
  refine secondStep_stands halive (S := fun e => e.codes = d.codes ∧ e.keypad.lockout = d.keypad.lockout
    ∧ e.load.slots = d.load.slots) (fun e f h => ?_) ?_ (fun e p h => ?_) order
  · simpa using h
  · rw [(countSecond_keeps d).codes, countSecond_keypad, countSecond_load, keypadSecond_lockout]
    exact ⟨rfl, rfl, rfl⟩
  · rw [tickPart_codes_within hminute, tickPart_load_within hslot, tickPart_keypad, if_neg (by simp [hminute])]
    exact h

/-- Settles O7: meter time is what the count of the second makes it, whatever the order of the parts. -/
theorem secondTickAdvancesTime : Obligations.SecondTickAdvancesTime := by
  intro s first halive
  refine answers_of_takeEvent (f := secondStep (tickOrder first)) rfl ?_
  obtain ⟨hnow, hset⟩ := secondStep_time halive (tickOrder first)
  rw [noteDisplay_clock, hnow, hset, noteDisplay_codes, noteDisplay_keypad, noteDisplay_load]
  refine ⟨advanceTime_within, fun hsecond => advanceTime_carry (by simp [hsecond]), fun hmax => ?_, rfl,
    keepsBut_noteDisplay (secondStep_keeps halive _)⟩
  have hheld : advanceTime s.device.clock.now = s.device.clock.now := by rw [hmax]; rfl
  exact ⟨hheld, secondStep_held halive hheld _⟩

/-! ### Settling O8 -/

/-- The row of a timer's end is the second tick, taken under the condition of the end. -/
theorem exec_row {c : Instr} {s : State} {P : Device → Prop} {hP : DecidablePred P} {first : List TickPart}
    (hexec : exec c s = takeEvent s fun d => if P d then secondStep (tickOrder first) d else d) (h : P s.device) :
    exec c s = exec (.secondTick first) s := by
  rw [hexec]
  show _ = takeEvent s (secondStep (tickOrder first))
  rw [takeEvent_eq, takeEvent_eq, if_pos h]

/-- What holds of the part after the tick, whatever was noted, is what the tick's row answers. -/
theorem answers_secondTick {c : Instr} {s : State} {first : List TickPart} {after : Device → Prop}
    (hexec : exec c s = exec (.secondTick first) s) (hnote : ∀ e f, after f → after (noteDisplay e f))
    (h : after (secondStep (tickOrder first) s.device)) : answers c s after :=
  answers_of_takeEvent (f := secondStep (tickOrder first)) (hexec.trans rfl) (hnote _ _ h)

/-- Of Keypad Entry but the lockout a tick makes what the count of the second makes (R105, R107). -/
theorem secondStep_keypad {d : Device} (halive : alive d = true) (order : List TickPart) :
    { (secondStep order d).keypad with lockout := 0 } = { keypadSecond d.keypad with lockout := 0 } := by
  refine secondStep_stands halive
    (S := fun e => { e.keypad with lockout := 0 } = { keypadSecond d.keypad with lockout := 0 })
    (fun e f h => by rwa [noteDisplay_keypad]) (by rw [countSecond_keypad]) (fun e p h => ?_) order
  rw [tickPart_keypad]
  split <;> exact h

theorem windowMinute_windowMinutes (d : Device) :
    (windowMinute d).codes.windowMinutes = d.codes.windowMinutes - 1 := by
  unfold windowMinute
  split
  case isTrue h => omega
  split
  case isTrue h => rw [closeWindow, (endTest_keeps _ _).codes, h]; rfl
  case isFalse => rfl

theorem minuteStep_windowMinutes (day : Bool) (d : Device) :
    (minuteStep day d).codes.windowMinutes = d.codes.windowMinutes - 1 := by
  rw [minuteStep_eq, lockoutMinute, Device.setKeypad_codes, windowMinute_windowMinutes,
    (recomputeCreditReason_keeps _).codes, (minuteTested_keeps day d).codes]

/-- The minute that closes the window ends a meter test (R18, R90). -/
theorem minuteStep_testEnds {day : Bool} {d : Device} (h : d.codes.windowMinutes = 1) :
    (minuteStep day d).intake.testActive = false := by
  have hcodes : (recomputeCreditReason (minuteTested day d)).codes = d.codes := by
    rw [(recomputeCreditReason_keeps _).codes, (minuteTested_keeps day d).codes]
  rw [minuteStep_eq, lockoutMinute, Device.setKeypad_intake, windowMinute, hcodes, if_neg (by omega), if_pos h]
  exact endTest_over _ _

theorem dayProcessing_testActive (d : Device) : (dayProcessing d).intake.testActive = d.intake.testActive := by
  rcases dayProcessing_cases d with h | ⟨f, _, _, _, _, h⟩ <;> rw [h]
  rfl

theorem minuteTested_testActive (day : Bool) (d : Device) :
    (minuteTested day d).intake.testActive = d.intake.testActive := by
  have hprocessed : (minuteProcessed day d).intake.testActive = d.intake.testActive := by
    unfold minuteProcessed
    split
    · exact dayProcessing_testActive d
    · rfl
  unfold minuteTested
  split
  · rw [(activationTest_keeps _).intake]; exact hprocessed
  · exact hprocessed

theorem windowMinute_testActive (d : Device) (h : d.intake.testActive = false) :
    (windowMinute d).intake.testActive = false := by
  unfold windowMinute
  split
  · exact h
  split
  · exact endTest_over _ _
  · exact h

/-- No part of a tick begins a meter test (R16). -/
theorem tickPart_testActive (before : Device) (p : TickPart) {d : Device} (h : d.intake.testActive = false) :
    (tickPart before p d).intake.testActive = false := by
  have hframe := tickPart_keeps before p d
  cases p with
  | boundary =>
    unfold tickPart
    dsimp only
    split
    · rw [minuteStep_eq]
      refine windowMinute_testActive _ ?_
      rw [(recomputeCreditReason_keeps _).intake, minuteTested_testActive, h]
    · exact h
  | test =>
    show (testStep d).intake.testActive = false
    unfold testStep
    split
    · exact endTest_over _ _
    · exact h
  | slot | backoff | presence => rw [hframe.intake]; exact h

theorem detect_reasons (x : Source) (detail : Option Byte) (d : Device) {w : Reason} (hw : w ≠ .tamper) :
    (detect x detail d).relay.reasons.has w = d.relay.reasons.has w := by
  unfold detect
  dsimp only
  split
  · rw [addRecord_relay]; rfl
  split
  · rfl
  · rw [latchSource_eq]
    unfold evaluateTamper
    rw [setReason_reasons, Reasons.put_has_ne _ _ hw, raiseNotice_relay]
    exact congrArg (fun r : Relay => r.reasons.has w) (addRecord_relay _ d)

theorem Reasons.has_of_aside {r q : Reasons} (h : creditAside r = creditAside q) {w : Reason} (hw : w ≠ .credit) :
    r.has w = q.has w := by
  obtain ⟨_, _, _, _, _, _⟩ := Reasons.mk.inj h
  cases w
  case credit => exact absurd rfl hw
  all_goals assumption

theorem minuteStep_aside (day : Bool) (d : Device) :
    creditAside (minuteStep day d).relay.reasons = creditAside d.relay.reasons := by
  have htested : creditAside (minuteTested day d).relay.reasons = creditAside d.relay.reasons := by
    have hprocessed : creditAside (minuteProcessed day d).relay.reasons = creditAside d.relay.reasons := by
      unfold minuteProcessed
      split
      · exact dayProcessing_aside d
      · rfl
    unfold minuteTested
    split
    · rw [(activationTest_keeps _).relay]; exact hprocessed
    · exact hprocessed
  rw [minuteStep_eq, lockoutMinute, Device.setKeypad_relay, (windowMinute_keeps _).relay, recomputeCreditReason_aside, htested]

theorem slotTested_reasons (d : Device) {w : Reason} (hw : w ≠ .load) :
    (slotTested d).relay.reasons.has w = d.relay.reasons.has w := by
  unfold slotTested
  split
  · rw [loadTrip_reasons, Reasons.put_has_ne _ _ hw]
  · rfl

/-- The reason that a part of a tick may move. -/
def partReason : TickPart → Option Reason
  | .boundary => some .credit
  | .slot | .backoff => some .load
  | .presence => some .tamper
  | .test => none

theorem tickPart_reason (before : Device) {p : TickPart} (d : Device) {w : Reason} (hw : partReason p ≠ some w) :
    (tickPart before p d).relay.reasons.has w = d.relay.reasons.has w := by
  have hframe := tickPart_keeps before p d
  have hother : ∀ {v}, partReason p = some v → w ≠ v := fun h heq => hw (heq ▸ h)
  cases p with
  | boundary =>
    unfold tickPart
    dsimp only
    split
    · exact Reasons.has_of_aside (minuteStep_aside _ d) (hother rfl)
    · rfl
  | slot =>
    unfold tickPart
    dsimp only
    split
    · exact slotTested_reasons _ (hother rfl)
    · rfl
  | backoff =>
    show (backoffStep _ d).relay.reasons.has w = _
    unfold backoffStep
    split
    · rw [setReason_reasons, Reasons.put_has_ne _ _ (hother rfl)]
    · rfl
  | presence =>
    unfold tickPart presenceStep
    dsimp only
    split
    · split
      · exact detect_reasons _ _ _ (hother rfl)
      · rfl
    · rfl
  | test => rw [hframe.relay]

theorem keepsBut.presence {l : List Block} {d e : Device} (h : keepsBut l d e) (hl : .link ∉ l := by decide) :
    e.link.presence = d.link.presence := by
  obtain ⟨_, _, _, hpresence, _⟩ := link_fields_of_linkBody (h.linkBody hl)
  exact hpresence

/-- Presence supervision and its source are one part's alone. -/
theorem tickPart_presence (before : Device) {p : TickPart} (hp : p ≠ .presence) (d : Device) :
    (tickPart before p d).link.presence = d.link.presence ∧ (tickPart before p d).tamper = d.tamper := by
  have hframe := tickPart_keeps before p d
  cases p with
  | presence => exact absurd rfl hp
  | boundary | slot | backoff | test =>
    exact ⟨hframe.presence, hframe.tamper⟩

theorem alive_of_minuteNext {d : Device} (h : minuteNext d = true) : alive d = true := by
  simp only [minuteNext, Bool.and_eq_true] at h
  exact h.1.1

theorem minuteStep_lockout (day : Bool) (d : Device) :
    (minuteStep day d).keypad.lockout = d.keypad.lockout - 1 := by
  rw [minuteStep_eq]
  show (windowMinute _).keypad.lockout - 1 = _
  rw [(windowMinute_keeps _).keypad, (recomputeCreditReason_keeps _).keypad, (minuteTested_keeps day d).keypad]

/-- The boundary's part at a tick that reaches a minute. -/
theorem tickPart_boundary {before : Device} (h : minuteNext before = true) (d : Device) :
    tickPart before .boundary d = minuteStep (dayNext before) d := if_pos h

/-- A tick that reaches a minute takes one from the lockout and the window (R90, R109). -/
theorem secondStep_minute {d : Device} (hminute : minuteNext d = true) :
    (secondStep (tickOrder [.boundary]) d).keypad.lockout = d.keypad.lockout - 1
      ∧ (secondStep (tickOrder [.boundary]) d).codes.windowMinutes = d.codes.windowMinutes - 1 := by
  refine secondStep_first (alive_of_minuteNext hminute)
    (S := fun e => e.keypad.lockout = d.keypad.lockout - 1 ∧ e.codes.windowMinutes = d.codes.windowMinutes - 1)
    (fun e f h => by simpa using h) ?_ (fun e p hp h => ?_)
  · rw [tickPart_boundary hminute, minuteStep_lockout, minuteStep_windowMinutes, noteDisplay_keypad, countSecond_keypad,
      keypadSecond_lockout, (countSecond_frame d).codes]
    exact ⟨rfl, rfl⟩
  · have hframe := tickPart_keeps d p e
    rw [tickPart_keypad, if_neg fun hb => hp hb.1]
    cases p with
    | boundary => exact absurd rfl hp
    | slot | backoff | test | presence => rw [hframe.codes]; exact h

theorem secondStep_windowEnds {d : Device} (hminute : minuteNext d = true) (h : d.codes.windowMinutes = 1) :
    (secondStep (tickOrder [.boundary]) d).intake.testActive = false := by
  refine secondStep_first (alive_of_minuteNext hminute) (S := fun e => e.intake.testActive = false)
    (fun e f h => by rwa [noteDisplay_intake]) ?_ (fun e p _ h => tickPart_testActive d p h)
  rw [tickPart_boundary hminute]
  exact minuteStep_testEnds (by rw [(countSecond_frame d).codes, h])

/-- The test ends at its hour (R19). -/
theorem secondStep_testEnds {d : Device} (halive : alive d = true) (hactive : d.intake.testActive = true)
    (htimer : d.intake.testTimer = 3599) : (secondStep (tickOrder [.test]) d).intake.testActive = false := by
  refine secondStep_first halive (S := fun e => e.intake.testActive = false)
    (fun e f h => by rwa [noteDisplay_intake]) ?_ (fun e p _ h => tickPart_testActive d p h)
  have hcounted : (noteDisplay d (countSecond d)).intake.testTimer = 3600 := by
    rw [noteDisplay_intake, countSecond_intake, if_pos hactive, htimer]
  show (testStep _).intake.testActive = false
  unfold testStep
  rw [if_pos (by rw [hcounted]; decide)]
  exact endTest_over _ _

/-- The backoff ends and LOAD leaves the set (R131). -/
theorem secondStep_backoffEnds {d : Device} (halive : alive d = true) (hbackoff : d.load.backoff = 1)
    (hslot : slotNext d = false) :
    (secondStep (tickOrder [.backoff]) d).load.backoff = 0
      ∧ (secondStep (tickOrder [.backoff]) d).relay.reasons.load = false := by
  refine secondStep_first halive (S := fun e => e.load.backoff = 0 ∧ e.relay.reasons.load = false)
    (fun e f h => by simpa using h) ?_ (fun e p hp h => ?_)
  · have hcounted : (noteDisplay d (countSecond d)).load.backoff = 0 := by
      rw [noteDisplay_load, countSecond_load, hbackoff]
    show (backoffStep (decide (0 < d.load.backoff)) _).load.backoff = 0 ∧ (backoffStep _ _).relay.reasons.load = false
    unfold backoffStep
    rw [if_pos ⟨by simp [hbackoff], hcounted⟩, (setReason_keeps _ _ _).load, setReason_reasons]
    exact ⟨hcounted, rfl⟩
  · rw [tickPart_load_within hslot]
    refine ⟨h.1, ?_⟩
    cases p with
    | slot => simpa [tickPart, hslot] using h.2
    | backoff => exact absurd rfl hp
    | boundary | test | presence => exact (tickPart_reason d e (w := .load) (by simp [partReason])).trans h.2

theorem alive_of_running {d : Device} (h : running d = true) : alive d = true := by
  simp only [running, Bool.and_eq_true, beq_iff_eq] at h
  simp [alive, h.1]

/-- The part as presence supervision lapses: the second counted, the presence gone (R100). -/
def presenceLapsed (d : Device) : Device :=
  (noteDisplay d (countSecond d)).setLink { (noteDisplay d (countSecond d)).link with presence := .lapsed }

theorem presenceLapsed_entry (d : Device) (x : Source) : sourceEntry (presenceLapsed d) x = sourceEntry d x :=
  (countSecond_frame d).sourceEntry x

/-- Presence supervision lapses and CIU_LINK takes a detection (R100). -/
theorem secondStep_presenceEnds {d : Device} (hrun : running d = true) (hpresence : d.link.presence = .watching 1) :
    (secondStep (tickOrder [.presence]) d).link.presence = .lapsed
      ∧ sourceEntry (secondStep (tickOrder [.presence]) d) .ciuLink = detectedEntry .ciuLink (presenceLapsed d) := by
  refine secondStep_first (alive_of_running hrun)
    (S := fun e => e.link.presence = .lapsed ∧ sourceEntry e .ciuLink = detectedEntry .ciuLink (presenceLapsed d))
    (fun e f h => ⟨(noteDisplay_keeps e f).presence.trans h.1, (sourceEntry_noteDisplay e f _).trans h.2⟩) ?_
    (fun e p hp h => ?_)
  · have hcounted : (noteDisplay d (countSecond d)).link.presence = .watching 0 := by
      rw [(noteDisplay_keeps _ _).presence, countSecond_link, if_pos hrun]
      simp [hpresence, presenceSecond]
    have hstep : tickPart d .presence (noteDisplay d (countSecond d)) = detect .ciuLink none (presenceLapsed d) :=
      (if_pos hrun).trans (if_pos hcounted)
    rw [hstep, sourceEntry_detect, if_pos rfl]
    exact ⟨(detect_keeps _ _ _).presence, rfl⟩
  · obtain ⟨hkept, htamper⟩ := tickPart_presence d hp e
    rw [hkept, sourceEntry, htamper]
    exact h

/-- Settles O8: each row is the tick that ends its timer, and what its part ends stays ended. -/
theorem timersExpireAtTheirTick : Obligations.TimersExpireAtTheirTick := by
  intro s halive
  have hstep : s.device.keypad.stepTimer = 1 → exec .stepExpiry s = exec (.secondTick []) s :=
    exec_row (P := fun d => d.keypad.stepTimer = 1) rfl
  have hinactivity : s.device.keypad.inactivity = 1 → exec .inactivityExpiry s = exec (.secondTick []) s :=
    exec_row (P := fun d => d.keypad.inactivity = 1) rfl
  have hlockout : minuteNext s.device = true → s.device.keypad.lockout = 1 →
      exec .lockoutExpiry s = exec (.secondTick [.boundary]) s := fun h k =>
    exec_row (P := fun d => minuteNext d = true ∧ d.keypad.lockout = 1) rfl ⟨h, k⟩
  have hwindow : minuteNext s.device = true → s.device.codes.windowMinutes = 1 →
      exec .serviceWindowExpiry s = exec (.secondTick [.boundary]) s := fun h k =>
    exec_row (P := fun d => minuteNext d = true ∧ d.codes.windowMinutes = 1) rfl ⟨h, k⟩
  have htest : s.device.intake.testActive = true → s.device.intake.testTimer = 3599 →
      exec .testExpiry s = exec (.secondTick [.test]) s := fun h k =>
    exec_row (P := fun d => d.intake.testActive = true ∧ Config.testSeconds ≤ d.intake.testTimer + 1) rfl
      ⟨h, by rw [k]; decide⟩
  have hbackoff : s.device.load.backoff = 1 → exec .backoffExpiry s = exec (.secondTick [.backoff]) s :=
    exec_row (P := fun d => d.load.backoff = 1) rfl
  have hpresence : running s.device = true → s.device.link.presence = .watching 1 →
      exec .presenceExpiry s = exec (.secondTick [.presence]) s := fun h k =>
    exec_row (P := fun d => running d = true ∧ d.link.presence = .watching 1) rfl ⟨h, k⟩
  obtain ⟨hbuffer, htimer, hpage, hidle, houtcome, _⟩ := Keypad.mk.inj (secondStep_keypad halive (tickOrder []))
  refine ⟨fun h => ?_, fun h => ?_, fun h k => ?_, fun h k => ?_, fun h k => ?_, fun h k => ?_, fun h k => ?_,
    hstep, hinactivity, hlockout, hwindow, htest, hbackoff, hpresence⟩
  · refine answers_secondTick (hstep h) (fun e f => by simp) ?_
    rw [htimer]
    unfold keypadSecond clearEntry
    dsimp only
    split <;> simp [h]
  · refine answers_secondTick (hinactivity h) (fun e f => by simp) ?_
    rw [hbuffer, htimer, hpage, hidle, houtcome]
    simp [keypadSecond, clearEntry, h]
  · refine answers_secondTick (hlockout h k) (fun e f => by simp) ?_
    rw [(secondStep_minute h).1, k]
  · refine answers_secondTick (hwindow h k) (fun e f => by simp) ?_
    exact ⟨by rw [(secondStep_minute h).2, k], secondStep_windowEnds h k⟩
  · exact answers_secondTick (htest h k) (fun e f => by simp) (secondStep_testEnds halive h k)
  · exact answers_secondTick (hbackoff h) (fun e f => by simp) (secondStep_backoffEnds halive h k)
  · refine answers_secondTick (hpresence h k)
      (fun e f hf => ⟨(noteDisplay_keeps e f).presence.trans hf.1, by simpa using hf.2⟩) ?_
    obtain ⟨hlapsed, hentry⟩ := secondStep_presenceEnds h k
    rw [hentry, detectedEntry_count, presenceLapsed_entry]
    exact ⟨hlapsed, detectedEntry_latched (exempted_other (by decide) _), rfl⟩

end Sys2Proof.Machine
end

section
/-! PROOFS. O9 and O10: what the boundaries of the minute, the day and the slot do at the tick that reaches them. -/

namespace Sys2Proof.Machine

/-! ### Settling O9 -/

/-- A boundary's tick, once its second is counted, has the part's settings, power, account and tariffs as they were. -/
def counted (d : Device) : Device := noteDisplay d (countSecond d)

theorem counted_clock (d : Device) : (counted d).clock = { d.clock with now := advanceTime d.clock.now } := by
  rw [counted, noteDisplay_clock, countSecond_clock]

/-- CREDIT is recomputed at a minute boundary (R39). -/
theorem minuteStep_credit {day : Bool} {d : Device} (hpart : d.power.part ≠ .initializing) :
    (minuteStep day d).relay.reasons.credit = creditReasonOf (minuteStep day d) := by
  have hrecomputed := recomputeCreditReason_keeps (minuteTested day d)
  have hafter : keepsBut [.codes, .intake, .keypad, .log, .host] (recomputeCreditReason (minuteTested day d))
      (minuteStep day d) := keepsBut_comp (windowMinute_keeps _) (setKeypad_keeps _ _)
  have hpart' : (minuteTested day d).power.part ≠ .initializing := by rwa [(minuteTested_keeps day d).power]
  rw [hafter.relay, creditReasonOf_congr hafter.power hafter.account hafter.settings hafter.clock,
    creditReasonOf_congr hrecomputed.power hrecomputed.account hrecomputed.settings hrecomputed.clock,
    recomputeCreditReason, if_neg hpart', setReason_reasons]
  rfl

theorem secondStep_credit {d : Device} (hminute : minuteNext d = true) (hpart : d.power.part ≠ .initializing) :
    (secondStep (tickOrder [.boundary]) d).relay.reasons.credit
      = creditReasonOf (secondStep (tickOrder [.boundary]) d) := by
  refine secondStep_first (alive_of_minuteNext hminute) (S := fun e => e.relay.reasons.credit = creditReasonOf e)
    (fun e f h => ?_) ?_ (fun e p hp h => ?_)
  · have hnote := noteDisplay_keeps e f
    rwa [hnote.relay, creditReasonOf_congr hnote.power hnote.account hnote.settings hnote.clock]
  · rw [tickPart_boundary hminute]
    exact minuteStep_credit (by rwa [(countSecond_frame d).power])
  · have hcredit := tickPart_reason d (p := p) e (w := .credit) (by cases p <;> simp_all [partReason])
    have hframe := tickPart_keeps d p e
    rw [show (tickPart d p e).relay.reasons.credit = e.relay.reasons.credit from hcredit, h]
    cases p with
    | boundary => exact absurd rfl hp
    | slot | backoff | test | presence =>
      exact (creditReasonOf_congr hframe.power hframe.account hframe.settings hframe.clock).symm

/-- A confirmed pending tariff whose time has come becomes active (R62). -/
theorem activationTest_tariffs {d : Device} {p : PendingTariff} (hpending : d.tariffs.pending = some p)
    (hconfirmed : p.confirmed = true) (hset : d.clock.isSet = true) (hdue : activationDue p.tariff d.clock.now = true) :
    (activationTest d).tariffs = { active := p.tariff, pending := none } := by
  simp only [activationTest, hpending, hconfirmed, hset, hdue, Bool.and_self, if_true]
  exact (addRecord_keeps _ _).tariffs

theorem minuteProcessed_keeps (day : Bool) (d : Device) :
    keepsBut [.intake, .account, .clock, .relay, .log, .host] d (minuteProcessed day d)
      ∧ (minuteProcessed day d).clock.now = d.clock.now ∧ (minuteProcessed day d).clock.isSet = d.clock.isSet := by
  unfold minuteProcessed
  split
  · exact ⟨keepsBut_mono (dayProcessing_keeps d) (by decide), dayProcessing_clock d⟩
  · exact ⟨keepsBut_refl _ _, rfl, rfl⟩

theorem minuteStep_tariffs (day : Bool) (d : Device) : (minuteStep day d).tariffs = (minuteTested day d).tariffs := by
  have hafter : keepsBut [.codes, .intake, .keypad, .relay, .log, .host] (minuteTested day d) (minuteStep day d) :=
    keepsBut_comp (keepsBut_comp (n := [.codes, .intake, .relay, .log, .host]) (recomputeCreditReason_keeps _)
      (windowMinute_keeps _)) (setKeypad_keeps _ _)
  exact hafter.tariffs

theorem secondStep_activates {d : Device} (hminute : minuteNext d = true) (hpart : d.power.part ≠ .initializing)
    (hset : d.clock.isSet = true) {p : PendingTariff} (hpending : d.tariffs.pending = some p)
    (hconfirmed : p.confirmed = true) (hdue : activationDue p.tariff (advanceTime d.clock.now) = true) :
    (secondStep (tickOrder [.boundary]) d).tariffs = { active := p.tariff, pending := none } := by
  refine secondStep_first (alive_of_minuteNext hminute)
    (S := fun e => e.tariffs = { active := p.tariff, pending := none }) (fun e f h => by rwa [noteDisplay_tariffs]) ?_
    (fun e q hq h => ?_)
  · obtain ⟨hprocessed, hnow, hisSet⟩ := minuteProcessed_keeps (dayNext d) (counted d)
    have hcounted : keepsBut _ d (counted d) := countSecond_frame d
    rw [tickPart_boundary hminute, minuteStep_tariffs]
    show (minuteTested (dayNext d) (counted d)).tariffs = _
    unfold minuteTested
    rw [if_pos (by rwa [hcounted.power])]
    refine activationTest_tariffs ?_ hconfirmed ?_ ?_
    · rw [hprocessed.tariffs, hcounted.tariffs, hpending]
    · rw [hisSet, counted_clock, hset]
    · rw [hnow, counted_clock, hdue]
  · have hframe := tickPart_keeps d q e
    cases q with
    | boundary => exact absurd rfl hq
    | slot | backoff | test | presence => rw [hframe.tariffs]; exact h

theorem minuteNext_of_dayNext {d : Device} (h : dayNext d = true) : minuteNext d = true := by
  simp only [dayNext, minuteNext, Bool.and_eq_true, beq_iff_eq] at h ⊢
  exact ⟨h.1, by simp [h.2]⟩

/-- A tick that reaches a day has carried into it (R47). -/
theorem advanceTime_of_dayNext {d : Device} (h : dayNext d = true) :
    advanceTime d.clock.now = { day := d.clock.now.day + 1, second := 0 } := by
  simp only [dayNext, Bool.and_eq_true, beq_iff_eq, bne_iff_ne] at h
  obtain ⟨⟨_, hmoved⟩, hzero⟩ := h
  by_cases hsecond : d.clock.now.second < 86399
  · rw [advanceTime_within hsecond] at hzero
    exact absurd hzero (Nat.succ_ne_zero _)
  · by_cases hday : d.clock.now.day < 65535
    · exact advanceTime_carry hsecond hday
    · exact absurd (advanceTime_held hsecond hday) hmoved

theorem debit_charged {k : Nat} {w : DebitReason} {d : Device} (h : d.account.charged ≤ 999999999999) :
    (debit k w d).account.charged = (d.account.charged + k) % 1000000000000 := by
  rcases Nat.eq_zero_or_pos k with rfl | hk
  · rw [debit_zero, Nat.add_zero, Nat.mod_eq_of_lt (Nat.lt_succ_of_le h)]
  · rw [debit_account hk.ne']
    exact (debitedAccount_frame k d.account).1

/-- The lifetime charge of the days owed (R26, R53). -/
theorem debits_charged (n k : Nat) (w : DebitReason) {d : Device} (h : d.account.charged ≤ 999999999999) :
    ((debit k w)^[n] d).account.charged = (d.account.charged + n * k) % 1000000000000 := by
  induction n with
  | zero => rw [Nat.zero_mul, Nat.add_zero, Nat.mod_eq_of_lt (Nat.lt_succ_of_le h)]; rfl
  | succ n ih =>
    have hrange : ((debit k w)^[n] d).account.charged ≤ 999999999999 := by
      rw [ih]
      exact Nat.le_of_lt_succ (Nat.mod_lt _ (by decide))
    rw [Function.iterate_succ_apply', debit_charged hrange, ih, Nat.mod_add_mod, Nat.add_assoc, Nat.succ_mul]

theorem windowMinute_reverse (d : Device) : (windowMinute d).intake.reverse = d.intake.reverse := by
  unfold windowMinute
  split
  · rfl
  split
  · rw [closeWindow, endTest_intake]; rfl
  · rfl

/-- What a day boundary leaves (R53). -/
structure DayCharged (day reverse charged : Nat) (d : Device) : Prop where
  lastCharged : d.clock.lastCharged = some day
  reverse : d.intake.reverse = reverse
  charged : d.account.charged = charged

theorem minuteStep_charged {day reverse charged : Nat} {d : Device}
    (h : DayCharged day reverse charged (minuteProcessed true d)) : DayCharged day reverse charged (minuteStep true d) := by
  have htested : DayCharged day reverse charged (minuteTested true d) := by
    unfold minuteTested
    split
    · have hactivated := activationTest_keeps (minuteProcessed true d)
      exact ⟨hactivated.clock ▸ h.lastCharged, hactivated.intake ▸ h.reverse, hactivated.account ▸ h.charged⟩
    · exact h
  have hcredit := recomputeCreditReason_keeps (minuteTested true d)
  refine ⟨minuteStep_clock true d ▸ htested.lastCharged, ?_, ?_⟩
  · show (windowMinute (recomputeCreditReason (minuteTested true d))).intake.reverse = _
    rw [windowMinute_reverse, hcredit.intake, htested.reverse]
  · show (windowMinute (recomputeCreditReason (minuteTested true d))).account.charged = _
    rw [(windowMinute_keeps _).account, hcredit.account, htested.charged]

theorem tickPart_charged {day reverse charged : Nat} {before d : Device} {p : TickPart} (hp : p ≠ .boundary)
    (h : DayCharged day reverse charged d) : DayCharged day reverse charged (tickPart before p d) := by
  have hframe := tickPart_keeps before p d
  cases p with
  | boundary => exact absurd rfl hp
  | test =>
    refine ⟨hframe.clock ▸ h.lastCharged, ?_, hframe.account ▸ h.charged⟩
    show (testStep d).intake.reverse = _
    unfold testStep
    split
    · rw [endTest_intake]; exact h.reverse
    · exact h.reverse
  | slot | backoff | presence =>
    exact ⟨hframe.clock ▸ h.lastCharged, hframe.intake ▸ h.reverse, hframe.account ▸ h.charged⟩

theorem dayProcessing_charged {d : Device} {last : Nat} (hset : d.clock.isSet = true)
    (hlast : d.clock.lastCharged = some last) (hdue : last < d.clock.now.day)
    (hcharged : d.account.charged ≤ 999999999999) :
    DayCharged d.clock.now.day 0
      ((d.account.charged + min (d.clock.now.day - last) 7 * d.tariffs.active.standing) % 1000000000000)
      (dayProcessing d) := by
  obtain ⟨f, _, _, haccount, heq⟩ := dayProcessing_due hset hlast hdue
  rw [heq]
  refine ⟨rfl, rfl, ?_⟩
  show f.account.charged = _
  rw [haccount, debits_charged _ _ _ hcharged]
  rfl

theorem secondStep_charged {d : Device} {l : Nat} (hday : dayNext d = true) (hrun : running d = true)
    (hset : d.clock.isSet = true) (hlast : d.clock.lastCharged = some l) (hdue : l ≤ d.clock.now.day)
    (hcharged : d.account.charged ≤ 999999999999) :
    DayCharged (d.clock.now.day + 1) 0
      ((d.account.charged + min (d.clock.now.day + 1 - l) 7 * d.tariffs.active.standing) % 1000000000000)
      (secondStep (tickOrder [.boundary]) d) := by
  have hminute := minuteNext_of_dayNext hday
  refine secondStep_first (alive_of_minuteNext hminute) (S := DayCharged _ _ _)
    (fun e f h => ⟨by simpa using h.1, by simpa using h.2, by simpa using h.3⟩) ?_
    (fun e p hp h => tickPart_charged hp h)
  rw [tickPart_boundary hminute, hday]
  refine minuteStep_charged ?_
  have hframe : keepsBut _ d (counted d) := countSecond_frame d
  have hclock := counted_clock d
  rw [advanceTime_of_dayNext hday] at hclock
  have hmains : d.power.supply = .mains ∧ d.power.part ≠ .initializing := by
    simpa [running, bne_iff_ne] using hrun
  show DayCharged _ _ _ (minuteProcessed true (counted d))
  unfold minuteProcessed
  rw [if_pos (by rw [hframe.power]; exact ⟨rfl, hmains⟩)]
  have h := dayProcessing_charged (d := counted d) (last := l) (by rw [hclock]; exact hset) (by rw [hclock]; exact hlast)
    (by rw [hclock]; exact Nat.lt_succ_of_le hdue) (by rw [hframe.account]; exact hcharged)
  rwa [hclock, hframe.account, hframe.tariffs] at h

/-- Settles O9: the boundary's part comes first, and the other parts move nothing that it establishes. -/
theorem minuteAndDayBoundariesAct : Obligations.MinuteAndDayBoundariesAct := by
  refine ⟨fun s hminute => ?_, fun s hday => exec_row (P := fun d => dayNext d = true) rfl hday,
    fun s l hday hrun hset hlast hdue hcharged => ?_⟩
  · have hrow : exec .minuteBoundary s = exec (.secondTick [.boundary]) s :=
      exec_row (P := fun d => minuteNext d = true) rfl hminute
    refine ⟨hrow, answers_of_takeEvent (f := secondStep (tickOrder [.boundary])) (hrow.trans rfl) ?_⟩
    have halive := alive_of_minuteNext hminute
    have hnote := noteDisplay_keeps s.device (secondStep (tickOrder [.boundary]) s.device)
    obtain ⟨hlockout, hwindow⟩ := secondStep_minute hminute
    refine ⟨?_, ?_, ?_, fun hpart => ?_, fun hpart hset p hp hconfirmed hdue => ?_⟩
    · rw [noteDisplay_clock, (secondStep_time halive _).1]
    · rw [noteDisplay_codes, hwindow]
    · rw [noteDisplay_keypad, hlockout]
    · rw [hnote.relay, creditReasonOf_congr hnote.power hnote.account hnote.settings hnote.clock]
      exact secondStep_credit hminute hpart
    · rw [noteDisplay_tariffs]
      exact secondStep_activates hminute hpart hset (Option.mem_def.mp hp) hconfirmed hdue
  · refine answers_secondTick (first := [.boundary]) (exec_row (P := fun d => dayNext d = true) rfl hday) (fun e f => by simp) ?_
    obtain ⟨hlastCharged, hreverse, htotal⟩ := secondStep_charged hday hrun hset hlast hdue hcharged
    exact ⟨hlastCharged, hreverse, htotal⟩

/-! ### Settling O10 -/

theorem takeLimit_eq (l : Load) :
    takeLimit l = { l with limit := l.pendingLimit.getD l.limit, pendingLimit := none } := by
  unfold takeLimit
  split
  case h_1 w hw => rw [hw]; rfl
  case h_2 hnone => rw [hnone]; cases l; simp_all

theorem shiftSlots_zero (l : Load) (h : l.slots = Vector.replicate 12 0) : shiftSlots l = l := by
  obtain ⟨slots, limit, pendingLimit, history, backoff⟩ := l
  obtain rfl := h
  simp only [shiftSlots, Load.mk.injEq, and_true]
  decide

theorem addTrip_eq {t : Nat} {l : List Nat} (h : l.length ≤ 3) : addTrip t l = l.drop (l.length - 2) ++ [t] := by
  unfold addTrip
  split
  case isTrue hroom =>
    have hle : l.length - 2 = 0 := by simp only [Config.tripPlaces] at hroom; omega
    rw [hle, List.drop_zero]
  case isFalse hfull =>
    have hone : l.length - 2 = 1 := by simp only [Config.tripPlaces] at hfull; omega
    rw [hone]

/-- The long backoff is the one of three trips within an hour (R130). -/
theorem backoffOf_long_iff (l : List Nat) :
    backoffOf l = 1800 ↔ ∃ a b c, l = [a, b, c] ∧ a ≤ c ∧ c - a ≤ 3600 := by
  unfold backoffOf
  split
  case h_1 a b c =>
    by_cases hspan : a ≤ c ∧ c - a ≤ Config.tripSpan
    · rw [if_pos hspan]
      exact iff_of_true rfl ⟨a, b, c, rfl, hspan⟩
    · rw [if_neg hspan]
      refine iff_of_false (by decide) ?_
      rintro ⟨x, y, z, heq, hxz⟩
      obtain ⟨rfl, rfl, rfl⟩ : a = x ∧ b = y ∧ c = z := by simpa using heq
      exact hspan hxz
  case h_2 hlength =>
    refine iff_of_false (by decide) ?_
    rintro ⟨a, b, c, rfl, _⟩
    exact hlength a b c rfl

theorem tickPart_slot {before : Device} (h : slotNext before = true) (d : Device) : tickPart before .slot d = slotStep d :=
  if_pos h

theorem alive_of_slotNext {d : Device} (h : slotNext d = true) : alive d = true := by
  simp only [slotNext, Bool.and_eq_true] at h
  exact h.1.1

theorem counted_load (d : Device) : (counted d).load = { d.load with backoff := d.load.backoff - 1 } := by
  rw [counted, noteDisplay_load, countSecond_load]

/-- The Load Monitor's block after a slot boundary without a trip (R129). -/
theorem secondStep_slot {d : Device} (hslot : slotNext d = true)
    (hquiet : ¬ (0 < d.load.pendingLimit.getD d.load.limit
      ∧ d.load.pendingLimit.getD d.load.limit < 6 * d.load.slots.toList.sum)) :
    (secondStep (tickOrder [.slot]) d).load = shiftSlots (takeLimit (counted d).load) := by
  refine secondStep_first (alive_of_slotNext hslot) (S := fun e => e.load = shiftSlots (takeLimit (counted d).load))
    (fun e f h => by rwa [noteDisplay_load]) ?_ (fun e p hp h => ?_)
  · have hstands : slotTested ((counted d).setLoad (takeLimit (counted d).load))
        = (counted d).setLoad (takeLimit (counted d).load) := by
      refine if_neg ?_
      rw [Device.setLoad_load, takeLimit_eq, counted_load]
      exact hquiet
    rw [tickPart_slot hslot]
    show (slotStep (counted d)).load = _
    rw [slotStep_eq, hstands]
    rfl
  · have hframe := tickPart_keeps d p e
    cases p with
    | slot => exact absurd rfl hp
    | boundary | backoff | test | presence => rw [hframe.load]; exact h

/-- The Load Monitor's block after a trip (R130). -/
def trippedLoad (now : Nat) (l : Load) : Load :=
  { takeLimit l with
    slots := Vector.replicate 12 0, history := addTrip now l.history, backoff := backoffOf (addTrip now l.history) }

theorem secondStep_trip {d : Device} (hslot : slotNext d = true) (hlimit : 0 < d.load.pendingLimit.getD d.load.limit)
    (hover : d.load.pendingLimit.getD d.load.limit < 6 * d.load.slots.toList.sum) :
    (secondStep (tickOrder [.slot]) d).load = trippedLoad (timeSeconds (advanceTime d.clock.now)) (counted d).load
      ∧ (secondStep (tickOrder [.slot]) d).relay.reasons.load = true := by
  refine secondStep_first (alive_of_slotNext hslot)
    (S := fun e => e.load = trippedLoad (timeSeconds (advanceTime d.clock.now)) (counted d).load
      ∧ e.relay.reasons.load = true)
    (fun e f h => by rwa [noteDisplay_load, noteDisplay_relay]) ?_ (fun e p hp h => ?_)
  · have htrips : slotTested ((counted d).setLoad (takeLimit (counted d).load))
        = loadTrip ((counted d).setLoad (takeLimit (counted d).load)) := by
      refine if_pos ?_
      rw [Device.setLoad_load, takeLimit_eq, counted_load]
      exact ⟨hlimit, hover⟩
    rw [tickPart_slot hslot]
    show (slotStep (counted d)).load = _ ∧ (slotStep (counted d)).relay.reasons.load = true
    rw [slotStep_eq, htrips, Device.setLoad_load, Device.setLoad_relay, loadTrip_reasons,
      shiftSlots_zero _ (by rw [loadTrip_load]),
      loadTrip_load, Device.setLoad_load, Device.setLoad_clock, counted_clock, trippedLoad, takeLimit_eq]
    exact ⟨rfl, rfl⟩
  · obtain ⟨hload, hreason⟩ := h
    have hframe := tickPart_keeps d p e
    have hbackoff : e.load.backoff ≠ 0 := by
      rw [hload]
      rcases backoffOf_range (addTrip (timeSeconds (advanceTime d.clock.now)) (counted d).load.history) with h | h <;>
        simp [trippedLoad, h]
    cases p with
    | slot => exact absurd rfl hp
    | backoff =>
      have hruns : tickPart d .backoff e = e := if_neg fun h => hbackoff h.2
      rw [hruns]
      exact ⟨hload, hreason⟩
    | boundary | test | presence =>
      rw [hframe.load]
      exact ⟨hload, (tickPart_reason d e (w := .load) (by simp [partReason])).trans hreason⟩

/-- Settles O10: the slot boundary's part comes first, and no later part undoes it. -/
theorem slotBoundaryTestsAndShifts : Obligations.SlotBoundaryTestsAndShifts := by
  intro s hslot
  have hrow : exec .slotBoundary s = exec (.secondTick [.slot]) s :=
    exec_row (P := fun d => slotNext d = true) rfl hslot
  refine ⟨hrow, fun hquiet => ?_, fun hlimit hover hlength => ?_⟩
  · refine answers_secondTick hrow (fun e f => by simp) ?_
    rw [secondStep_slot hslot hquiet, shiftSlots_toList, takeLimit_eq, counted_load]
    exact ⟨rfl, by rw [shiftSlots], rfl, rfl⟩
  · refine answers_secondTick hrow (fun e f => by simp) ?_
    obtain ⟨hload, hreason⟩ := secondStep_trip hslot hlimit hover
    have hhistory := addTrip_eq (t := timeSeconds (advanceTime s.device.clock.now)) hlength
    rw [hload, trippedLoad, takeLimit_eq, counted_load]
    refine ⟨rfl, rfl, rfl, hreason, hhistory, backoffOf_range _, (backoffOf_long_iff _).trans ⟨?_, ?_⟩⟩
    · rintro ⟨a, b, c, heq, hspan⟩
      have hlast : c = timeSeconds (advanceTime s.device.clock.now) := by
        have hends := congrArg List.getLast? (hhistory.symm.trans heq)
        simpa using hends.symm
      exact ⟨a, b, hlast ▸ heq, hlast ▸ hspan⟩
    · rintro ⟨a, b, heq, hspan⟩
      exact ⟨a, b, _, heq, hspan⟩

end Sys2Proof.Machine
end

section
/-! PROOFS. O26 and O56: the ends of relay operations and of the position watch, RETRY_RELAY, and the resolution of the
relay at a mains return. -/

namespace Sys2Proof.Machine

/-! ### What the ends of an operation leave -/

theorem goStuck_relay (c : FaultCause) (p : Position) (d : Device) :
    (goStuck c p d).relay.state = .stuck p ∧ (goStuck c p d).relay.lastConfirmed = d.relay.lastConfirmed
      ∧ (goStuck c p d).relay.fault = some
        (match d.relay.fault with
          | none => { cause := c, time := timeMark d, multiple := false }
          | some f => { f with multiple := true }) := by
  unfold goStuck recordFault
  rw [enterRelay_relay, addRecord_relay]
  cases d.relay.fault <;> exact ⟨rfl, rfl, rfl⟩

section
variable {s : State} {p : Position} {a : Attempt}

theorem exec_driveCompletion (hop : operation s.device.relay.state = some (p, a)) (hdriving : a.driving = true) :
    exec .driveCompletion s = takeEvent s (endDrive p a) := by
  show execDriveCompletion s = _
  unfold execDriveCompletion
  rw [takeEvent_eq, takeEvent_eq]
  simp only [hop, hdriving, if_true]

theorem exec_confirmationExpiry (hop : operation s.device.relay.state = some (p, a)) (hdriving : a.driving = false)
    (hconfirmed : a.confirmed = false) (hwaiting : a.waiting = false) :
    exec .confirmationExpiry s = takeEvent s (endConfirmation p a) := by
  show execConfirmationExpiry s = _
  unfold execConfirmationExpiry
  rw [takeEvent_eq, takeEvent_eq]
  simp only [hop, hdriving, hconfirmed, hwaiting]
  rfl

theorem exec_retryExpiry (hop : operation s.device.relay.state = some (p, a)) (hwaiting : a.waiting = true) :
    exec .retryExpiry s = takeEvent s (endRetry p) := by
  show execRetryExpiry s = _
  unfold execRetryExpiry
  rw [takeEvent_eq, takeEvent_eq]
  simp only [hop, hwaiting, if_true]

theorem exec_positionWatchExpiry (hwatch : watchRunning s.device = true)
    (hp : settledPosition s.device.relay.state = some p) :
    exec .positionWatchExpiry s = takeEvent s (goStuck .unexpectedPosition p) := by
  show execPositionWatchExpiry s = _
  unfold execPositionWatchExpiry
  rw [takeEvent_eq, takeEvent_eq]
  simp only [hwatch, hp, if_true]

end

/-- An attempt that ends unconfirmed, having begun with an auxiliary position, waits undriven (R115, step 3). -/
theorem endDrive_waits {a : Attempt} (hconfirmed : a.confirmed = false) (haux : a.auxAtStart = true) (p : Position)
    (d : Device) :
    endDrive p a d = d.setRelay { d.relay with state := operationState p { a with driving := false } } := by
  simp [endDrive, hconfirmed, haux]

theorem endDrive_settles {a : Attempt} (h : a.confirmed = true ∨ a.auxAtStart = false) (p : Position) (d : Device) :
    endDrive p a d = settle p d := by
  rcases h with h | h <;> simp [endDrive, h]

theorem endConfirmation_sticks {a : Attempt} (h : a.second = true) (p : Position) (d : Device) :
    endConfirmation p a d = goStuck (match p with | .open => .openFailed | .closed => .closeFailed) p d := by
  cases p <;> exact if_pos h

theorem endConfirmation_waits {a : Attempt} (h : a.second = false) {p : Position} {d : Device}
    (hstays : givesWay p d = false) :
    endConfirmation p a d = d.setRelay { d.relay with state := operationState p { a with waiting := true } } := by
  simp [endConfirmation, h, hstays]

theorem endConfirmation_givesWay {a : Attempt} (h : a.second = false) {p : Position} {d : Device}
    (hgives : givesWay p d = true) : endConfirmation p a d = startAttempt .open false d := by
  simp [endConfirmation, h, hgives]

theorem endRetry_retries {p : Position} {d : Device} (h : givesWay p d = false) :
    endRetry p d = startAttempt p true d := by simp [endRetry, h]

theorem endRetry_givesWay {p : Position} {d : Device} (h : givesWay p d = true) :
    endRetry p d = startAttempt .open false d := by simp [endRetry, h]

/-- The retry wait is not displayed. -/
theorem displayed_waiting {d : Device} {a : Attempt} {p : Position} (h : d.relay.state = operationState p a) :
    displayed (d.setRelay { d.relay with state := operationState p { a with waiting := true } }) = displayed d := by
  have hname : relayName (operationState p { a with waiting := true }) = relayName d.relay.state := by
    rw [h]
    cases p <;> rfl
  simp only [displayed, statusHead, Device.setRelay_relay, hname]
  rfl

/-- What a fault leaves (R117, R121, R124). -/
theorem answers_goStuck {c : Instr} {s : State} {cause : FaultCause} {p : Position}
    (hexec : exec c s = takeEvent s (goStuck cause p)) :
    answers c s fun d =>
      d.relay.state = .stuck p ∧ d.relay.lastConfirmed = s.device.relay.lastConfirmed
        ∧ d.relay.fault = some
            (match s.device.relay.fault with
              | none => { cause := cause, time := timeMark s.device, multiple := false }
              | some f => { f with multiple := true })
        ∧ keepsBut [.relay, .log, .host] s.device d := by
  refine answers_of_takeEvent hexec ?_
  obtain ⟨hstate, hlast, hfault⟩ := goStuck_relay cause p s.device
  rw [noteDisplay_relay, hstate, hlast, hfault]
  refine ⟨rfl, rfl, ?_, keepsBut_noteDisplay (goStuck_keeps _ _ _)⟩
  cases s.device.relay.fault <;> rfl

/-- An operation that begins, or begins again, moves the relay alone. -/
theorem answers_startAttempt {c : Instr} {s : State} {f : Device → Device} {p : Position} {second : Bool}
    (hexec : exec c s = takeEvent s f) (hf : f s.device = startAttempt p second s.device) :
    answers c s fun d => keepsBut [.relay] s.device d ∧ d.relay = (startAttempt p second s.device).relay := by
  refine answers_of_takeEvent hexec ?_
  rw [hf, noteDisplay_relay]
  exact ⟨keepsBut_noteDisplay (startAttempt_keeps _ _ _), rfl⟩

/-- A drive that ends without settling its operation (R115, step 3). -/
theorem endDrive_waiting {s : State} {a : Attempt} {p : Position} (hconfirmed : a.confirmed = false)
    (haux : a.auxAtStart = true) :
    (noteDisplay s.device (endDrive p a s.device)).relay
        = { s.device.relay with state := operationState p { a with driving := false } }
      ∧ keepsBut [.relay] s.device (noteDisplay s.device (endDrive p a s.device)) := by
  rw [endDrive_waits hconfirmed haux, noteDisplay_relay]
  exact ⟨rfl, keepsBut_noteDisplay (setRelay_keeps _ _)⟩

theorem retryHandler_stuck {d : Device} {p : Position} (h : d.relay.state = .stuck p) :
    retryHandler d = (startAttempt (if d.relay.reasons.isEmpty then .closed else .open) false
      (d.setRelay { d.relay with fault := none }), accepted []) := by
  simp only [retryHandler, h]

/-- Settles O26: each end of an attempt is one branch of its end's definition. -/
theorem relayOperationsSettleRetryAndStick : Obligations.RelayOperationsSettleRetryAndStick := by
  refine ⟨fun s a hrun hdriving => ⟨fun hst => ?_, fun hst => ?_⟩, fun s a => ⟨fun hst hd hc hw => ?_,
    fun hst hd hc hw => ?_, fun hst hw => ?_, fun hst hw => ?_, fun hwatch p hp =>
      answers_goStuck (exec_positionWatchExpiry hwatch (Option.mem_def.mp hp))⟩, fun s p hready hopen hst => ?_⟩
  · have hop : operation s.device.relay.state = some (.open, a) := by rw [hst]; rfl
    refine answers_of_takeEvent (exec_driveCompletion hop hdriving) ⟨endDrive_waiting, fun hends => ?_⟩
    rw [endDrive_settles hends, noteDisplay_relay, settle_relay hrun]
    exact ⟨rfl, keepsBut_noteDisplay (settle_open_keeps _)⟩
  · have hop : operation s.device.relay.state = some (.closed, a) := by rw [hst]; rfl
    refine answers_of_takeEvent (exec_driveCompletion hop hdriving) ⟨endDrive_waiting, fun hends => ?_⟩
    rw [endDrive_settles hends, noteDisplay_relay, noteDisplay_intake, settle_relay hrun, settle_intake]
    exact ⟨rfl, rfl, keepsBut_noteDisplay (settle_keeps _ _)⟩
  · have hop : operation s.device.relay.state = some (.open, a) := by rw [hst]; rfl
    have hexec := exec_confirmationExpiry hop hd hc hw
    refine ⟨fun hsecond => answers_goStuck (hexec.trans ?_), fun hfirst =>
      answers_exactly hexec (endConfirmation_waits hfirst rfl) (displayed_waiting (p := .open) hst)⟩
    rw [takeEvent_eq, takeEvent_eq, endConfirmation_sticks hsecond]
  · have hop : operation s.device.relay.state = some (.closed, a) := by rw [hst]; rfl
    have hexec := exec_confirmationExpiry hop hd hc hw
    refine ⟨fun hsecond => answers_goStuck (hexec.trans ?_), fun hfirst hempty =>
      answers_exactly hexec (endConfirmation_waits hfirst (by simp [givesWay, hempty]))
        (displayed_waiting (p := .closed) hst),
      fun hfirst hreasons => answers_startAttempt hexec (endConfirmation_givesWay hfirst (by simp [givesWay, hreasons]))⟩
    rw [takeEvent_eq, takeEvent_eq, endConfirmation_sticks hsecond]
  · exact answers_startAttempt (exec_retryExpiry (p := .open) (by rw [hst]; rfl) hw) (endRetry_retries rfl)
  · have hexec := exec_retryExpiry (p := .closed) (a := a) (s := s) (by rw [hst]; rfl) hw
    refine answers_of_takeEvent hexec ?_
    cases hreasons : s.device.relay.reasons.isEmpty
    · rw [endRetry_givesWay (by simp [givesWay, hreasons]), noteDisplay_relay]
      exact ⟨keepsBut_noteDisplay (startAttempt_keeps _ _ _), fun h => absurd h (by decide), fun _ => rfl⟩
    · rw [endRetry_retries (by simp [givesWay, hreasons]), noteDisplay_relay]
      exact ⟨keepsBut_noteDisplay (startAttempt_keeps _ _ _), fun _ => rfl, fun h => absurd h (by decide)⟩
  · have hserved : handleRetryRelay [] (huntService s.device)
        = (startAttempt (if s.device.relay.reasons.isEmpty then .closed else .open) false
            ((huntService s.device).setRelay { s.device.relay with fault := none }), some (accepted [])) := by
      rw [handleRetryRelay, changing_open (d := huntService s.device) hopen, noParameters_nil,
        retryHandler_stuck (d := huntService s.device) hst]
      rfl
    refine answers_serviceFrame (m := [.relay, .service]) rfl hready hserved
      (keepsBut_comp (n := [.relay]) (setRelay_keeps _ _) (startAttempt_keeps _ _ _)) (by decide) (by decide) (by decide) ?_
    rintro d rfl hreplied hframe
    exact ⟨noteDisplay_relay _ _, hreplied, hframe⟩

/-! ### The relay off mains -/

/-- Off mains the Relay Controller moves no more than its set (R126). -/
def OnlyReasons (d e : Device) : Prop := e.relay = { d.relay with reasons := e.relay.reasons }

theorem OnlyReasons.refl (d : Device) : OnlyReasons d d := rfl

theorem OnlyReasons.trans {d e f : Device} (h : OnlyReasons d e) (k : OnlyReasons e f) : OnlyReasons d f := by
  unfold OnlyReasons at h k ⊢
  rw [k, h]

theorem OnlyReasons.of_frame {l : List Block} {d e : Device} (h : keepsBut l d e) (hl : .relay ∉ l := by decide) :
    OnlyReasons d e := by
  unfold OnlyReasons
  rw [h.relay hl]

theorem setReasons_onlyReasons {d : Device} (hoff : running d = false) (r : Reasons) :
    OnlyReasons d (setReasons r d) := by
  unfold OnlyReasons
  rw [setReasons_relay_off hoff]

theorem recomputeCredit_onlyReasons {d : Device} (hoff : running d = false) : OnlyReasons d (recomputeCredit d) := by
  have hstate := recomputeCreditState_keeps d
  refine (OnlyReasons.of_frame hstate).trans ?_
  unfold recomputeCredit recomputeCreditReason
  split
  · exact .refl _
  · exact setReasons_onlyReasons (hstate.running.trans hoff) _

theorem debit_onlyReasons {d : Device} (hoff : running d = false) (k : Nat) (w : DebitReason) :
    OnlyReasons d (debit k w d) := by
  unfold debit
  split
  · exact .refl d
  · have hdebited := keepsBut_comp (n := [.account, .log, .host]) (setAccount_keeps d (debitedAccount k d.account))
      (recordDiscard_keeps (debitExcess k d.account) w _)
    exact (OnlyReasons.of_frame hdebited).trans (recomputeCredit_onlyReasons (hdebited.running.trans hoff))

theorem debits_onlyReasons {d : Device} (hoff : running d = false) (n k : Nat) (w : DebitReason) :
    OnlyReasons d ((debit k w)^[n] d) := by
  induction n with
  | zero => exact .refl d
  | succ n ih =>
    rw [Function.iterate_succ_apply']
    exact ih.trans (debit_onlyReasons ((debits_keep n k w d).running.trans hoff) k w)

theorem dayProcessing_onlyReasons {d : Device} (hoff : running d = false) : OnlyReasons d (dayProcessing d) := by
  unfold dayProcessing
  split
  case h_2 => exact .refl d
  dsimp only
  split
  · exact .refl d
  unfold OnlyReasons
  dsimp only [Device.setClock_relay, Device.setIntake_relay]
  split
  · rw [addRecord_relay]; exact debits_onlyReasons hoff _ _ _
  · exact debits_onlyReasons hoff _ _ _

/-! ### Settling O56 -/

theorem settledOn_congr {d e : Device} (hr : e.relay.reasons = d.relay.reasons) (ht : e.tamper = d.tamper) (p : Position) :
    settledOn p e = settledOn p d := by
  cases p <;> simp only [settledOn, hr, startAttempt, Device.setRelay_relay, auxPosition_congr ht]

/-- The resolution of a relay that is not STUCK (R127). -/
theorem resolveRelay_free {d : Device} (h : ∀ p, d.relay.state ≠ .stuck p) :
    resolveRelay d = settle ((auxPosition d).getD d.relay.lastConfirmed) d := by
  unfold resolveRelay
  split
  case h_1 target hst => exact absurd hst (h target)
  case h_2 => rfl

theorem resolveRelay_stuck {d : Device} {p : Position} (h : d.relay.state = .stuck p) :
    resolveRelay d = if auxPosition d = some p then settle p d else d := by
  simp only [resolveRelay, h]

/-- The resolution on mains, of which the set and the fault are no part (R127). -/
structure Resolved (d e : Device) : Prop where
  free : (∀ p, d.relay.state ≠ .stuck p) →
    e.relay.lastConfirmed = (auxPosition e).getD d.relay.lastConfirmed ∧ e.relay.state = settledOn e.relay.lastConfirmed e
  settles : ∀ p, d.relay.state = .stuck p → auxPosition e = some p →
    e.relay.lastConfirmed = p ∧ e.relay.state = settledOn p e
  stays : ∀ p, d.relay.state = .stuck p → auxPosition e ≠ some p →
    e.relay.lastConfirmed = d.relay.lastConfirmed ∧ e.relay.state = .stuck p
  fault : e.relay.fault = d.relay.fault

theorem settle_settled {d : Device} (hrun : running d = true) (p : Position) :
    (settle p d).relay.lastConfirmed = p ∧ (settle p d).relay.state = settledOn p (settle p d)
      ∧ (settle p d).relay.fault = d.relay.fault := by
  have hrelay := settle_relay hrun p
  have hsettled : settledOn p (settle p d) = settledOn p d :=
    settledOn_congr (by rw [hrelay]) (settle_keeps p d).tamper p
  rw [hsettled, hrelay]
  exact ⟨rfl, rfl, rfl⟩

theorem resolveRelay_resolved {d : Device} (hrun : running d = true) : Resolved d (resolveRelay d) := by
  have haux : auxPosition (resolveRelay d) = auxPosition d := (resolveRelay_keeps d).auxPosition
  by_cases hstuck : ∃ p, d.relay.state = .stuck p
  · obtain ⟨p, hp⟩ := hstuck
    rw [resolveRelay_stuck hp] at haux ⊢
    refine ⟨fun h => absurd hp (h p), fun q hq hat => ?_, fun q hq hat => ?_, ?_⟩
    · obtain rfl : p = q := by simpa [hp] using hq
      rw [haux] at hat
      rw [if_pos hat]
      obtain ⟨hlast, hstate, _⟩ := settle_settled hrun p
      exact ⟨hlast, hstate⟩
    · obtain rfl : p = q := by simpa [hp] using hq
      rw [haux] at hat
      rw [if_neg hat]
      exact ⟨rfl, hp⟩
    · split
      · exact (settle_settled hrun p).2.2
      · rfl
  · have hfree : ∀ p, d.relay.state ≠ .stuck p := fun p hp => hstuck ⟨p, hp⟩
    rw [resolveRelay_free hfree] at haux ⊢
    obtain ⟨hlast, hstate, hfault⟩ := settle_settled hrun ((auxPosition d).getD d.relay.lastConfirmed)
    refine ⟨fun _ => ?_, fun p hp => absurd hp (hfree p), fun p hp => absurd hp (hfree p), hfault⟩
    rw [haux]
    exact ⟨hlast, by rw [hlast]; exact hstate⟩

/-- A resolution that other blocks follow, and that changes of the set alone precede. -/
theorem Resolved.frame {m : List Block} {d e f g : Device} (h : Resolved e f) (hbefore : OnlyReasons d e)
    (hafter : keepsBut m f g)
    (hrelay : .relay ∉ m := by decide) (htamper : .tamper ∉ m := by decide) : Resolved d g := by
  have haux := hafter.auxPosition htamper
  have hsettled : ∀ p, settledOn p g = settledOn p f :=
    settledOn_congr (by rw [hafter.relay hrelay]) (hafter.tamper htamper)
  obtain ⟨hfree, hsettles, hstays, hfault⟩ := h
  rw [hbefore] at hfree hsettles hstays hfault
  constructor
  all_goals simp only [haux, hsettled, hafter.relay hrelay]
  all_goals assumption

theorem startPorts_fields (strap : Level) (d : Device) :
    (startPorts strap d).intake.filters = Vector.replicate 3 .waiting ∧ (startPorts strap d).host.address = strapAddress strap
      ∧ (startPorts strap d).host.response = .empty ∧ (startPorts strap d).link.statusDue = true := ⟨rfl, rfl, rfl, rfl⟩

theorem noteDisplay_statusDue_of {old new : Device} (h : new.link.statusDue = true) :
    (noteDisplay old new).link.statusDue = true := by
  unfold noteDisplay
  split
  · rfl
  · exact h

theorem processReturn_tamper (d : Device) : (processReturn d).tamper = (rearmLines mainsFunction d).tamper := by
  show (dayProcessing (rearmLines mainsFunction (addRecord .powerReturn d))).tamper = _
  rw [(dayProcessing_keeps _).tamper]
  simp only [rearmLines, Device.setTamper_tamper, (addRecord_keeps .powerReturn d).tamper]

theorem processReturn_onlyReasons {d : Device} (hoff : running d = false) : OnlyReasons d (processReturn d) := by
  have hrearmed : keepsBut [.tamper, .log, .host] d (rearmLines mainsFunction (addRecord .powerReturn d)) :=
    keepsBut_comp (addRecord_keeps .powerReturn d) (rearmLines_keeps mainsFunction _)
  exact (OnlyReasons.of_frame hrearmed).trans (dayProcessing_onlyReasons (hrearmed.running.trans hoff))

/-- Settles O56: off mains day processing moves the set alone, and the relay resolves once mains are there. -/
theorem mainsReturnResolvesTheRelay : Obligations.MainsReturnResolvesTheRelay := by
  intro s strap hbattery hpart
  have hoff : running s.device = false := by simp [running, hbattery]
  obtain ⟨hframe, hpower⟩ := processReturn_frame s.device
  have hrun : running (processReturn s.device) = true := by simp [running, hpower, hpart]
  have hresolve := resolveRelay_keeps (processReturn s.device)
  have hports := startPorts_keeps strap (resolveRelay (processReturn s.device))
  have hresolved := (resolveRelay_resolved hrun).frame (processReturn_onlyReasons hoff)
    (keepsBut_trans hports (keepsBut_mono (noteDisplay_keeps s.device _) (by simp)))
  obtain ⟨hfilters, haddress, hresponse, hdue⟩ := startPorts_fields strap (resolveRelay (processReturn s.device))
  refine answers_of_takeEvent (f := returnMains strap) ?_ ?_
  · show execMainsReturn strap s = _
    unfold execMainsReturn
    rw [takeEvent_eq, takeEvent_eq]
    simp [hbattery, hpart]
  refine ⟨?_, ?_, ?_, ?_, noteDisplay_statusDue_of hdue, ?_, hresolved.fault, hresolved.free,
    fun p hp => ⟨hresolved.settles p hp, hresolved.stays p hp⟩, ?_⟩
  · rw [noteDisplay_power]
    exact hports.power.trans (hresolve.power.trans hpower)
  · rw [noteDisplay_intake]; exact hfilters
  · rw [noteDisplay_host]
    exact haddress.trans (by cases strap <;> rfl)
  · rw [noteDisplay_host]; exact hresponse
  · rw [noteDisplay_tamper]
    exact hports.tamper.trans (hresolve.tamper.trans (processReturn_tamper _))
  · exact keepsBut_noteDisplay (keepsBut_comp (keepsBut_comp
      (n := [.power, .account, .clock, .intake, .relay, .tamper, .log, .host]) hframe hresolve) hports)

end Sys2Proof.Machine
end

section
/-! PROOFS. O30: the filters of the sensed lines, the detections of the tamper functions, a press, and the auxiliary
position at the Relay Controller. -/

namespace Sys2Proof.Machine

/-! ### The filters (R137) -/

/-- A line as its filter's expiry leaves it. -/
def filteredLine (l : Line) (d : Device) : Device :=
  setLine l { d.tamper.lines[l] with
    filtered := levelActive d.tamper.table[l] d.tamper.lines[l].raw, timing := false } d

theorem filteredLine_keeps (l : Line) (d : Device) : keepsBut [.tamper] d (filteredLine l d) := setTamper_keeps d _

theorem expireLine_eq {l : Line} {d : Device} (hsensed : sensed d l = true) (htiming : d.tamper.lines[l].timing = true) :
    expireLine l d = handFunction d.tamper.table[l].function d (filteredLine l d) := by
  simp only [expireLine, hsensed, htiming, Bool.and_self, if_true, filteredLine]

theorem changeLine_eq {l : Line} {level : Level} {d : Device} (h : level ≠ d.tamper.lines[l].raw) :
    changeLine l level d = setLine l { d.tamper.lines[l] with
      raw := level,
      timing := if sensed d l then levelActive d.tamper.table[l] level != d.tamper.lines[l].filtered
        else d.tamper.lines[l].timing } d := by
  unfold changeLine
  dsimp only
  rw [if_neg (Ne.symm h)]
  cases sensed d l <;> rfl

/-! ### The functions of lines (R139) -/

theorem functionActive_iff (d : Device) (f : LineFunction) :
    functionActive d f = true ↔ ∃ l : Line, d.tamper.table[l].function = f ∧ d.tamper.lines[l].filtered = true := by
  simp [functionActive, List.any_eq_true]

theorem filteredLine_same (l : Line) (d : Device) :
    (filteredLine l d).tamper.lines[l].filtered = levelActive d.tamper.table[l] d.tamper.lines[l].raw := by
  simp [filteredLine, setLine]

theorem filteredLine_other {l k : Line} (h : k ≠ l) (d : Device) :
    (filteredLine l d).tamper.lines[k] = d.tamper.lines[k] := by
  simp only [filteredLine, setLine, Device.setTamper_tamper, Fin.getElem_fin]
  exact Vector.getElem_set_ne l.isLt k.isLt fun heq => h (Fin.ext heq.symm)

/-- A line that becomes active makes its function active. -/
theorem functionActive_filtered {l : Line} {d : Device} (h : levelActive d.tamper.table[l] d.tamper.lines[l].raw = true) :
    functionActive (filteredLine l d) d.tamper.table[l].function = true :=
  (functionActive_iff _ _).mpr ⟨l, rfl, (filteredLine_same l d).trans h⟩

/-- A line that is not active makes no function active. -/
theorem functionActive_of_filtered {l : Line} {d : Device} {f : LineFunction}
    (hlevel : levelActive d.tamper.table[l] d.tamper.lines[l].raw = false)
    (h : functionActive (filteredLine l d) f = true) : functionActive d f = true := by
  obtain ⟨k, hfunction, hfiltered⟩ := (functionActive_iff _ _).mp h
  by_cases hk : k = l
  · subst hk
    rw [filteredLine_same, hlevel] at hfiltered
    exact absurd hfiltered (by decide)
  · rw [filteredLine_other hk] at hfiltered
    exact (functionActive_iff _ _).mpr ⟨k, hfunction, hfiltered⟩

/-- A line moves no function but its own. -/
theorem functionActive_filtered_other {l : Line} {d : Device} {f : LineFunction} (h : d.tamper.table[l].function ≠ f) :
    functionActive (filteredLine l d) f = functionActive d f := by
  rw [Bool.eq_iff_iff, functionActive_iff, functionActive_iff]
  refine exists_congr fun k => and_congr_right fun hk => ?_
  have hne : k ≠ l := fun heq => h (heq ▸ hk)
  rw [filteredLine_other hne]

theorem auxPosition_filtered_other {l : Line} {d : Device} (h : d.tamper.table[l].function ≠ .auxContact) :
    auxPosition (filteredLine l d) = auxPosition d := by
  unfold auxPosition
  rw [functionActive_filtered_other h]
  rfl

/-! ### Detections of the tamper functions (R139, R140, R146) -/

/-- A detection moves nothing of the Tamper Monitor but its sources. -/
theorem detect_tamper (x : Source) (detail : Option Byte) (d : Device) :
    (detect x detail d).tamper.lines = d.tamper.lines ∧ (detect x detail d).tamper.table = d.tamper.table
      ∧ (detect x detail d).tamper.deferred = d.tamper.deferred := by
  unfold detect
  dsimp only
  split
  · rw [(addRecord_keeps _ _).tamper]; exact ⟨rfl, rfl, rfl⟩
  split
  · exact ⟨rfl, rfl, rfl⟩
  · rw [latchSource_eq, evaluateTamper_tamper]
    show (addRecord _ d).tamper.lines = _ ∧ (addRecord _ d).tamper.table = _ ∧ (addRecord _ d).tamper.deferred = _
    rw [(addRecord_keeps _ d).tamper]
    exact ⟨rfl, rfl, rfl⟩

theorem detectedEntry_latched_eq (x : Source) (d : Device) :
    (detectedEntry x d).latched = ((sourceEntry d x).latched || !exempted x d) := by
  unfold detectedEntry
  cases hexempt : exempted x d <;> cases hlatched : (sourceEntry d x).latched <;> simp [latchedEntry, hlatched]

/-- What a tamper function's change hands on. -/
theorem handFunction_tamper {f : LineFunction} {x : Source} (hx : functionSource f = some x) (before d : Device) :
    handFunction f before d
      = if functionActive before f = false ∧ functionActive d f = true then
          (if d.power.part = .initializing then
            d.setTamper { d.tamper with deferred := noteDeferred f d.tamper.deferred } else detect x none d)
        else d := by
  cases f <;> simp only [functionSource, Option.some.injEq, reduceCtorEq] at hx
  all_goals
    subst hx
    simp [handFunction, functionDetected, functionSource]

/-- An expiry that makes no tamper function active moves its line alone. -/
theorem handFunction_quiet {l : Line} {d : Device} {x : Source}
    (hx : functionSource d.tamper.table[l].function = some x)
    (h : functionActive d d.tamper.table[l].function = true
      ∨ levelActive d.tamper.table[l] d.tamper.lines[l].raw = false) :
    handFunction d.tamper.table[l].function d (filteredLine l d) = filteredLine l d := by
  rw [handFunction_tamper hx]
  refine if_neg fun hboth => ?_
  obtain ⟨hwas, his⟩ := hboth
  rcases h with h | h
  · rw [hwas] at h; exact absurd h (by decide)
  · rw [functionActive_of_filtered h his] at hwas; exact absurd hwas (by decide)

theorem handFunction_active {l : Line} {d : Device} {x : Source}
    (hx : functionSource d.tamper.table[l].function = some x)
    (hwas : functionActive d d.tamper.table[l].function = false)
    (hlevel : levelActive d.tamper.table[l] d.tamper.lines[l].raw = true) :
    handFunction d.tamper.table[l].function d (filteredLine l d)
      = if d.power.part = .initializing then (filteredLine l d).setTamper { (filteredLine l d).tamper with
          deferred := noteDeferred d.tamper.table[l].function d.tamper.deferred }
        else detect x none (filteredLine l d) := by
  rw [handFunction_tamper hx, if_pos ⟨hwas, functionActive_filtered hlevel⟩]
  rfl

/-- An expiry of a tamper function's line moves the line, and at most its source and the deferred detections. -/
theorem handFunction_frame {l : Line} {d : Device} {x : Source}
    (hx : functionSource d.tamper.table[l].function = some x) :
    (handFunction d.tamper.table[l].function d (filteredLine l d)).tamper.lines = (filteredLine l d).tamper.lines
      ∧ (handFunction d.tamper.table[l].function d (filteredLine l d)).tamper.table = d.tamper.table
      ∧ keepsBut [.tamper, .relay, .log, .host] d (handFunction d.tamper.table[l].function d (filteredLine l d)) := by
  have hline := filteredLine_keeps l d
  rw [handFunction_tamper hx]
  split
  · split
    · exact ⟨rfl, rfl, keepsBut_comp hline (setTamper_keeps _ _)⟩
    · obtain ⟨hlines, htable, _⟩ := detect_tamper x none (filteredLine l d)
      exact ⟨hlines, htable, keepsBut_comp hline (detect_keeps x none _)⟩
  · exact ⟨rfl, rfl, keepsBut_mono hline (by decide)⟩

/-! ### The auxiliary position at the Relay Controller (R114, R115, R116, R122) -/

section
variable {d : Device} {before : Option Position} {p q : Position} {a : Attempt}

theorem auxChanged_same (h : auxPosition d = before) : auxChanged before d = d := if_pos h

theorem auxChanged_settled (h : (settledPosition d.relay.state).isSome = true) : auxChanged before d = d := by
  unfold auxChanged
  cases hst : d.relay.state <;> simp [hst, settledPosition] at h ⊢

theorem auxChanged_operation (hmoved : auxPosition d ≠ before) (hop : operation d.relay.state = some (q, a)) :
    auxChanged before d = auxInOperation q a d := by
  have hst := operation_eq hop
  unfold auxChanged
  rw [if_neg hmoved]
  cases q <;> simp only [hst, operationState]

theorem auxChanged_operation_other (haux : auxPosition d = some p) (hop : operation d.relay.state = some (q, a))
    (hq : q ≠ p) : auxChanged before d = d := by
  by_cases hmoved : auxPosition d = before
  · exact auxChanged_same hmoved
  · rw [auxChanged_operation hmoved hop, auxInOperation, if_neg (by simpa [haux] using hq.symm)]

theorem auxChanged_stuck (hmoved : auxPosition d ≠ before) (hst : d.relay.state = .stuck q) :
    auxChanged before d = if auxPosition d = some q then settle q d else d := by
  simp only [auxChanged, if_neg hmoved, hst]

theorem auxChanged_stuck_other (haux : auxPosition d = some p) (hst : d.relay.state = .stuck q) (hq : q ≠ p) :
    auxChanged before d = d := by
  by_cases hmoved : auxPosition d = before
  · exact auxChanged_same hmoved
  · rw [auxChanged_stuck hmoved hst, if_neg (by simpa [haux] using hq.symm)]

theorem auxInOperation_waiting (haux : auxPosition d = some p) (h : a.waiting = true) :
    auxInOperation p a d = settle p d := by
  simp [auxInOperation, haux, h]

theorem auxInOperation_undriven (haux : auxPosition d = some p) (hw : a.waiting = false) (hstart : a.auxAtStart = true)
    (hc : a.confirmed = false) (hd : a.driving = false) : auxInOperation p a d = settle p d := by
  simp [auxInOperation, haux, hw, hstart, hc, hd]

theorem auxInOperation_driven (haux : auxPosition d = some p) (hw : a.waiting = false) (hstart : a.auxAtStart = true)
    (hc : a.confirmed = false) (hd : a.driving = true) :
    auxInOperation p a d = d.setRelay { d.relay with state := operationState p { a with confirmed := true } } := by
  simp [auxInOperation, haux, hw, hstart, hc, hd]

theorem auxInOperation_stands (hw : a.waiting = false) (h : a.auxAtStart = false ∨ a.confirmed = true) :
    auxInOperation p a d = d := by
  unfold auxInOperation
  rcases h with h | h <;> simp [hw, h]

end

/-! ### Settling O30 -/

theorem handFunction_aux (before d : Device) :
    handFunction .auxContact before d = auxChanged (auxPosition before) d := rfl

/-- A press is the button's function becoming active; from RECONNECT_READY it begins a close (R120). -/
theorem handFunction_button (before d : Device) :
    handFunction .reconnectButton before d
      = if functionActive before .reconnectButton = false ∧ functionActive d .reconnectButton = true
          ∧ d.relay.state = .reconnectReady then startAttempt .closed false d
        else d := by
  cases hwas : functionActive before .reconnectButton <;> cases his : functionActive d .reconnectButton <;>
    simp [handFunction, hwas, his, reconnectPress]

theorem running_of_sensed {d : Device} {l : Line} (hsensed : sensed d l = true)
    (h : mainsFunction d.tamper.table[l].function = true) : running d = true := by
  have hnot : alwaysOn d.tamper.table[l].function = false := by
    cases hf : d.tamper.table[l].function <;> simp_all [mainsFunction, alwaysOn]
  unfold sensed at hsensed
  rw [hnot, h] at hsensed
  simpa using hsensed

/-- A line's filter expires, and what its function hands on follows (R137, R139). -/
theorem answers_filterExpiry {s : State} {l : Line} {after : Device → Prop} (hsensed : sensed s.device l = true)
    (htiming : s.device.tamper.lines[l].timing = true)
    (h : after (noteDisplay s.device
      (handFunction s.device.tamper.table[l].function s.device (filteredLine l s.device)))) :
    answers (.senseFilterExpiry l) s after := by
  refine answers_of_takeEvent (f := expireLine l) rfl ?_
  rw [expireLine_eq hsensed htiming]
  exact h

/-- What a settling leaves of the relay and the intake, whatever is noted of the display. -/
theorem settle_noted {d old : Device} (hrun : running d = true) (p : Position) :
    (noteDisplay old (settle p d)).relay = { d.relay with lastConfirmed := p, state := settledOn p d }
      ∧ (noteDisplay old (settle p d)).intake
        = (match p with | .open => d.intake | .closed => { d.intake with openEnergy := 0 }) := by
  exact ⟨(noteDisplay_relay _ _).trans (settle_relay hrun p),
    (noteDisplay_intake _ _).trans ((settle_intake p d).trans (by cases p <;> rfl))⟩

/-- Settles O30: a line moves alone, or with the one thing that its function hands on. -/
theorem senseLinesFilterAndDetect : Obligations.SenseLinesFilterAndDetect := by
  intro s l
  refine ⟨fun level hlevel => answers_exactly (f := changeLine l level) rfl (changeLine_eq hlevel) rfl,
    fun hsensed htiming _ x hx => answers_filterExpiry hsensed htiming ?_,
    fun hsensed htiming hbutton => answers_filterExpiry hsensed htiming ?_,
    fun p hsensed htiming hfunction haux => answers_filterExpiry hsensed htiming ?_⟩
  · have hsource := Option.mem_def.mp hx
    have hline := filteredLine_keeps l s.device
    obtain ⟨hlines, htable, hframe⟩ := handFunction_frame (d := s.device) hsource
    refine ⟨?_, ?_, keepsBut_noteDisplay hframe, fun hwas hlevel hpart => ?_, fun hwas hlevel hpart => ?_, fun hquiet => ?_⟩
    · rw [noteDisplay_tamper, hlines]; rfl
    · rw [noteDisplay_tamper, htable]
    · rw [handFunction_active hsource hwas hlevel, if_neg hpart]
      obtain ⟨_, _, hdeferred⟩ := detect_tamper x none (filteredLine l s.device)
      simp only [sourceEntry_noteDisplay, noteDisplay_tamper, sourceEntry_detect, if_true, detectedEntry_count,
        detectedEntry_latched_eq, hdeferred]
      refine ⟨rfl, rfl, fun y hy => ?_, rfl⟩
      rw [if_neg hy]
      rfl
    · rw [handFunction_active hsource hwas hlevel, if_pos hpart, noteDisplay_tamper]
      exact ⟨rfl, rfl, keepsBut_noteDisplay (keepsBut_comp hline (setTamper_keeps _ _))⟩
    · rw [handFunction_quiet hsource hquiet, noteDisplay_tamper]
      exact ⟨rfl, rfl, keepsBut_noteDisplay hline⟩
  · have hline := filteredLine_keeps l s.device
    have haux : auxPosition (filteredLine l s.device) = auxPosition s.device :=
      auxPosition_filtered_other (by rw [hbutton]; decide)
    have hattempt : (startAttempt .closed false (filteredLine l s.device)).relay
        = (startAttempt .closed false s.device).relay := by
      simp only [startAttempt, Device.setRelay_relay, haux, hline.relay]
    rw [hbutton, noteDisplay_tamper, noteDisplay_relay, handFunction_button]
    split
    case isTrue hpress =>
      exact ⟨rfl, keepsBut_noteDisplay (keepsBut_comp hline (startAttempt_keeps _ _ _)),
        hattempt.trans (if_pos hpress).symm⟩
    case isFalse hno =>
      exact ⟨rfl, keepsBut_noteDisplay (keepsBut_mono hline (by decide)), (if_neg hno).symm⟩
  · have hline := filteredLine_keeps l s.device
    have hchange : keepsBut [.relay, .intake, .log, .host] _ (auxChanged (auxPosition s.device) (filteredLine l s.device)) :=
      auxChanged_keeps _ _
    have hmains : running s.device = true := running_of_sensed hsensed (by rw [hfunction]; rfl)
    have hrun : running (filteredLine l s.device) = true := hmains
    change auxPosition (filteredLine l s.device) = some p at haux
    have hsettles := settle_noted (old := s.device) hrun p
    have hstands : ∀ {e}, e = filteredLine l s.device → keepsBut [.tamper] s.device (noteDisplay s.device e) := by
      rintro e rfl
      exact keepsBut_noteDisplay hline
    rw [hfunction, handFunction_aux]
    refine ⟨?_, keepsBut_noteDisplay (keepsBut_comp hline hchange),
      fun hsame => hstands (auxChanged_same (haux.trans hsame.symm)),
      fun hsettled => hstands (auxChanged_settled hsettled),
      fun a q hop hq => hstands (auxChanged_operation_other haux hop hq),
      fun q hst hq => hstands (auxChanged_stuck_other haux hst hq), fun a hmoved hop => ?_, fun hmoved hst => ?_⟩
    · rw [noteDisplay_tamper]; exact hchange.tamper
    · rw [auxChanged_operation (fun h => hmoved (h.symm.trans haux)) hop]
      refine ⟨fun hw => by rw [auxInOperation_waiting haux hw]; exact hsettles,
        fun hw hstart hc hd => by rw [auxInOperation_undriven haux hw hstart hc hd]; exact hsettles, fun hw hstart hc hd => ?_,
        fun hw h => hstands (auxInOperation_stands hw h)⟩
      rw [auxInOperation_driven haux hw hstart hc hd, noteDisplay_relay]
      exact ⟨rfl, keepsBut_noteDisplay (keepsBut_comp hline (setRelay_keeps _ _))⟩
    · rw [auxChanged_stuck (fun h => hmoved (h.symm.trans haux)) hst, if_pos haux]
      exact hsettles

end Sys2Proof.Machine
end

section
/-! PROOFS. How many records an operation may write, and that what has room is appended (R155). -/

namespace Sys2Proof.Machine

/-- From the first part to the second at most `n` records were written, and with room for them none was removed. -/
structure LogGrew (n : Nat) (d e : Device) : Prop where
  next : e.log.next ≤ d.log.next + n
  appended : d.log.records.length + n ≤ Config.logPlaces →
    ∃ more, more.length ≤ n ∧ e.log.records = d.log.records ++ more

section
variable {n m k : Nat} {d e f : Device}

theorem LogGrew.same (h : e.log = d.log) : LogGrew n d e := by
  constructor <;> rw [h]
  · exact Nat.le_add_right _ _
  · exact fun _ => ⟨[], Nat.zero_le _, (List.append_nil _).symm⟩

theorem LogGrew.of_frame {l : List Block} (h : keepsBut l d e) (hl : .log ∉ l := by decide) : LogGrew n d e := .same (h.log hl)

theorem LogGrew.trans (h : LogGrew n d e) (g : LogGrew m e f) (hk : n + m ≤ k := by decide) : LogGrew k d f := by
  refine ⟨?_, fun hroom => ?_⟩
  · have h1 := h.next
    have h2 := g.next
    omega
  · obtain ⟨first, hfirst, hfirsts⟩ := h.appended (by omega)
    obtain ⟨second, hsecond, hseconds⟩ := g.appended (by rw [hfirsts, List.length_append]; omega)
    refine ⟨first ++ second, by rw [List.length_append]; omega, ?_⟩
    rw [hseconds, hfirsts, List.append_assoc]

/-- What changes no log before or after changes nothing of the count. -/
theorem LogGrew.congr {d' f' : Device} (h : LogGrew n d f) (hd : d'.log = d.log := by rfl) (hf : f'.log = f.log := by rfl) :
    LogGrew n d' f' := by
  obtain ⟨hnext, happended⟩ := h
  constructor <;> rwa [hd, hf]

/-- The count begins where the log was last the same. -/
theorem LogGrew.after_same (h : LogGrew n e f) (hd : e.log = d.log) : LogGrew n d f := h.congr hd.symm

theorem LogGrew.ite {c : Prop} {_ : Decidable c} (he : LogGrew n d e) (hf : LogGrew n d f) :
    LogGrew n d (if c then e else f) := by
  split
  · exact he
  · exact hf

end

/-- Where there is room and a number, a record is appended (R155). -/
theorem addRecord_records {x : LogData} {d : Device} (hnext : d.log.next < Config.numberEnd)
    (hroom : d.log.records.length < Config.logPlaces) :
    (addRecord x d).log.records = d.log.records ++ [{ number := d.log.next, time := timeMark d, data := x }] := by
  rw [addRecord_log hnext, makeRoom, if_pos hroom]

theorem addRecord_grew (x : LogData) (d : Device) : LogGrew 1 d (addRecord x d) := by
  by_cases hnext : d.log.next < Config.numberEnd
  · refine ⟨?_, fun hroom => ⟨[_], le_rfl, addRecord_records hnext (Nat.lt_of_succ_le hroom)⟩⟩
    rw [addRecord_log hnext]
  · rw [addRecord_exhausted (Nat.not_lt.mp hnext)]
    exact .same rfl

theorem enterRelay_grew (st : RelayState) (d : Device) : LogGrew 1 d (enterRelay st d) := by
  have hentered : (if st = .closed then zeroOpenEnergy (d.setRelay { d.relay with state := st })
      else d.setRelay { d.relay with state := st }).log = d.log := by
    split <;> rfl
  exact (addRecord_grew (.relay (relayName st) d.relay.reasons) _).congr hentered.symm

theorem reactToReasons_grew (d : Device) : LogGrew 1 d (reactToReasons d) := by
  unfold reactToReasons
  refine .ite ?_ (.same rfl)
  split
  · exact .ite (.same rfl) (.same rfl)
  · exact .ite (enterRelay_grew _ d) (.same rfl)
  · exact .ite (.same rfl) (enterRelay_grew _ d)
  · exact .same rfl

theorem setReasons_grew (r : Reasons) (d : Device) : LogGrew 1 d (setReasons r d) :=
  .ite (.same rfl) (reactToReasons_grew (d.setRelay { d.relay with reasons := r })).congr

theorem recomputeCreditState_grew (d : Device) : LogGrew 1 d (recomputeCreditState d) :=
  .ite (.same rfl) (addRecord_grew (.creditState (creditStateOf d.account.balance d.settings.lowLevel) d.account.balance)
    (d.setAccount { d.account with creditState := creditStateOf d.account.balance d.settings.lowLevel })).congr

theorem recomputeCredit_grew (d : Device) : LogGrew 2 d (recomputeCredit d) := by
  have hreason : LogGrew 1 (recomputeCreditState d) (recomputeCredit d) :=
    .ite (.same rfl) (setReasons_grew _ _)
  exact (recomputeCreditState_grew d).trans hreason

theorem recordDiscard_grew (n : Nat) (w : DebitReason) (d : Device) : LogGrew 1 d (recordDiscard n w d) :=
  .ite (addRecord_grew _ d) (.same rfl)

theorem topUp_grew (n : Nat) (d : Device) : LogGrew 2 d (topUp n d) := by
  unfold topUp
  exact .after_same (recomputeCredit_grew _) rfl

theorem debtSet_grew (v p : Nat) (d : Device) : LogGrew 1 d (debtSet v p d) :=
  .after_same (recordDiscard_grew _ _ _) rfl

/-- A notice is no record. -/
theorem LogGrew.noticed {n : Nat} {d e : Device} (h : LogGrew n d e) (x : Notice) : LogGrew n d (raiseNotice x e) :=
  ⟨h.next, h.appended⟩

theorem clearAccount_grew (d : Device) : LogGrew 3 d (clearAccount d) := by
  have hcleared := addRecord_grew (.accountCleared d.account.balance d.account.debt) d
  unfold clearAccount
  dsimp only
  refine .noticed ?_ _
  exact hcleared.trans (m := 2) (.after_same (recomputeCredit_grew _) rfl)

theorem clearTamper_grew (p : Nat) (d : Device) : LogGrew 2 d (clearTamper p d) := by
  have hunlatched := (unlatchAll_keeps ((namedSources p).filter fun s => (sourceEntry d s).latched) d).log
  unfold clearTamper
  dsimp only
  refine .ite (.same rfl) ?_
  have hcleared := ((addRecord_grew (.tamperCleared p (sourceMask ((namedSources p).filter fun s =>
    (sourceEntry d s).latched))) _).congr (d' := d) hunlatched.symm).noticed .tamper
  exact hcleared.trans (setReasons_grew _ _)

theorem writeLimit_grew (w : Nat) (d : Device) : LogGrew 1 d (writeLimit w d) :=
  .ite (.same rfl) (setReasons_grew _ (d.setLoad { d.load with limit := 0, pendingLimit := none, backoff := 0 })).congr

theorem activationTest_grew (d : Device) : LogGrew 1 d (activationTest d) := by
  unfold activationTest
  split
  · refine .ite (.noticed ?_ _) (.same rfl)
    exact .after_same (addRecord_grew _ _) rfl
  · exact .same rfl

theorem confirmTariff_grew (d : Device) : LogGrew 1 d (confirmTariff d) := by
  unfold confirmTariff
  split
  · exact .same rfl
  case h_2 p _ => 
    exact (activationTest_grew
      (raiseNotice .tariff (d.setTariffs { d.tariffs with pending := some { p with confirmed := true } }))).congr

theorem endTest_grew (c : TestCause) (d : Device) : LogGrew 1 d (endTest c d) :=
  .ite (addRecord_grew _ (d.setIntake { d.intake with testActive := false })).congr (.same rfl)

theorem serviceOpen_grew (m : Nat) (d : Device) : LogGrew 1 d (serviceOpen m d) :=
  .ite (.same rfl) (.ite (endTest_grew .window (d.setCodes { d.codes with windowMinutes := 0 })).congr (.same rfl))

/-- An accepted code's class writes at most three records. -/
theorem classEffect_grew (f : CodeFields) (d : Device) : LogGrew 3 d (classEffect f d) := by
  have hfewer : ∀ {n : Nat} {e : Device}, LogGrew n d e → n ≤ 3 → LogGrew 3 d e := fun h hn =>
    h.trans (m := 0) (.same rfl) (by omega)
  unfold classEffect
  split
  · exact hfewer (topUp_grew _ d) (by decide)
  · exact hfewer (debtSet_grew _ _ d) (by decide)
  · exact hfewer (clearTamper_grew _ d) (by decide)
  · exact hfewer (writeLimit_grew _ d) (by decide)
  · exact hfewer (confirmTariff_grew d) (by decide)
  · exact hfewer (serviceOpen_grew _ d) (by decide)
  · exact clearAccount_grew d
  · exact .same rfl

/-- The record written first stays where it was written, while there is room for those after it. -/
theorem take_first_record {n : Nat} {d e f : Device} {x : LogData} (hroom : logRoom (n + 1) d)
    (hwritten : e.log = (addRecord x d).log) (hafter : LogGrew n e f) :
    f.log.records.take (d.log.records.length + 1)
      = d.log.records ++ [{ number := d.log.next, time := timeMark d, data := x }] := by
  obtain ⟨hplaces, hnumbers⟩ := hroom
  have hnext : d.log.next < Config.numberEnd := by omega
  have hrecords := addRecord_records (x := x) (d := d) hnext (by omega)
  rw [← hwritten] at hrecords
  obtain ⟨more, _, hmore⟩ := hafter.appended (by rw [hrecords, List.length_append, List.length_singleton]; omega)
  have hlength : d.log.records.length + 1 = (d.log.records ++ [LogRecord.mk d.log.next (timeMark d) x]).length := by simp
  rw [hmore, hrecords, hlength, List.take_left]

/-! ### The classes' effects do not read the Code Checker -/

theorem ite_setCodes (x : Codes) {c : Prop} {_ : Decidable c} (d e : Device) :
    (if c then d else e).setCodes x = if c then d.setCodes x else e.setCodes x := by
  split <;> rfl

section
variable (d : Device) (x : Codes)

theorem addRecord_setCodes (r : LogData) : addRecord r (d.setCodes x) = (addRecord r d).setCodes x := by
  unfold addRecord
  rw [ite_setCodes x]
  rfl

theorem raiseNotice_setCodes (n : Notice) : raiseNotice n (d.setCodes x) = (raiseNotice n d).setCodes x := rfl

theorem enterRelay_setCodes (st : RelayState) : enterRelay st (d.setCodes x) = (enterRelay st d).setCodes x := by
  unfold enterRelay
  dsimp only
  rw [← raiseNotice_setCodes, ← addRecord_setCodes, ite_setCodes x]
  rfl

theorem reactToReasons_setCodes : reactToReasons (d.setCodes x) = (reactToReasons d).setCodes x := by
  unfold reactToReasons
  by_cases hrun : running d = true
  · rw [if_pos (show running (d.setCodes x) = true from hrun), if_pos hrun, Device.setCodes_relay]
    match d.relay.state with
    | .closed => rw [ite_setCodes x]; rfl
    | .open => rw [ite_setCodes x]; exact ite_congr rfl (fun _ => enterRelay_setCodes d x _) fun _ => rfl
    | .reconnectReady =>
      rw [ite_setCodes x]; exact ite_congr rfl (fun _ => rfl) fun _ => enterRelay_setCodes d x _
    | .unheld | .opening _ | .closing _ | .stuck _ => rfl
  · rw [if_neg (show ¬ running (d.setCodes x) = true from hrun), if_neg hrun]

theorem setReasons_setCodes (r : Reasons) : setReasons r (d.setCodes x) = (setReasons r d).setCodes x := by
  unfold setReasons
  rw [ite_setCodes x]
  exact ite_congr rfl (fun _ => rfl) fun _ => reactToReasons_setCodes (d.setRelay { d.relay with reasons := r }) x

theorem recomputeCreditState_setCodes :
    recomputeCreditState (d.setCodes x) = (recomputeCreditState d).setCodes x := by
  unfold recomputeCreditState
  dsimp only
  rw [ite_setCodes x, ← raiseNotice_setCodes, ← addRecord_setCodes]
  rfl

theorem recomputeCredit_setCodes : recomputeCredit (d.setCodes x) = (recomputeCredit d).setCodes x := by
  unfold recomputeCredit
  rw [recomputeCreditState_setCodes]
  unfold recomputeCreditReason
  rw [ite_setCodes x]
  exact ite_congr rfl (fun _ => rfl) fun _ => setReasons_setCodes _ x _

theorem topUp_setCodes (n : Nat) : topUp n (d.setCodes x) = (topUp n d).setCodes x :=
  recomputeCredit_setCodes (d.setAccount (toppedUpAccount n d.account)) x

theorem debtSet_setCodes (v p : Nat) : debtSet v p (d.setCodes x) = (debtSet v p d).setCodes x := by
  unfold debtSet recordDiscard
  rw [ite_setCodes x, ← addRecord_setCodes]
  rfl

theorem unlatchAll_setCodes (l : List Source) : l.foldl unlatchSource (d.setCodes x) = (l.foldl unlatchSource d).setCodes x := by
  induction l generalizing d with
  | nil => rfl
  | cons s l ih => exact ih (unlatchSource d s)

/-- The named sources that are latched (R149). -/
def latchedNamed (p : Nat) (d : Device) : List Source := (namedSources p).filter fun s => (sourceEntry d s).latched

theorem clearTamper_eq (p : Nat) (d : Device) :
    clearTamper p d = if latchedNamed p d = [] then d
      else evaluateTamper (raiseNotice .tamper
        (addRecord (.tamperCleared p (sourceMask (latchedNamed p d))) ((latchedNamed p d).foldl unlatchSource d))) := rfl

theorem clearTamper_setCodes (p : Nat) : clearTamper p (d.setCodes x) = (clearTamper p d).setCodes x := by
  rw [clearTamper_eq, clearTamper_eq, ite_setCodes x]
  refine ite_congr rfl (fun _ => rfl) fun _ => ?_
  rw [show latchedNamed p (d.setCodes x) = latchedNamed p d from rfl, unlatchAll_setCodes, addRecord_setCodes]
  exact setReasons_setCodes (raiseNotice .tamper (addRecord _ _)) x _

theorem writeLimit_setCodes (w : Nat) : writeLimit w (d.setCodes x) = (writeLimit w d).setCodes x := by
  unfold writeLimit
  rw [ite_setCodes x]
  exact ite_congr rfl (fun _ => rfl) fun _ =>
    setReasons_setCodes (d.setLoad { d.load with limit := 0, pendingLimit := none, backoff := 0 }) x _

theorem activationTest_setCodes : activationTest (d.setCodes x) = (activationTest d).setCodes x := by
  unfold activationTest
  rw [Device.setCodes_tariffs]
  cases d.tariffs.pending with
  | none => rfl
  | some p =>
    dsimp only
    rw [ite_setCodes x, ← raiseNotice_setCodes, ← addRecord_setCodes]
    rfl

theorem confirmTariff_setCodes : confirmTariff (d.setCodes x) = (confirmTariff d).setCodes x := by
  unfold confirmTariff
  rw [Device.setCodes_tariffs]
  cases d.tariffs.pending with
  | none => rfl
  | some p =>
    exact activationTest_setCodes
      (raiseNotice .tariff (d.setTariffs { d.tariffs with pending := some { p with confirmed := true } })) x

theorem clearAccount_setCodes : clearAccount (d.setCodes x) = (clearAccount d).setCodes x := by
  unfold clearAccount
  dsimp only
  rw [← raiseNotice_setCodes, ← recomputeCredit_setCodes, Device.setCodes_account, addRecord_setCodes]
  rfl

end

/-! ### Settling O22 -/

theorem codes_idle_empty {c : Codes} (hcheck : c.inCheck = none) (hqueue : c.queue = []) :
    c = { c with inCheck := none, queue := [] } := by
  obtain ⟨queue, inCheck, _⟩ := c
  obtain rfl := hcheck
  obtain rfl := hqueue
  rfl

/-- With no code in check the oldest waiting code goes in check (R74). -/
theorem startCheck_idle {d : Device} (h : d.codes.inCheck = none) :
    (startCheck d).codes = { d.codes with inCheck := d.codes.queue.head?, queue := d.codes.queue.drop 1 } := by
  unfold startCheck
  rw [h]
  cases hqueue : d.codes.queue with
  | nil => exact codes_idle_empty h hqueue
  | cons c rest => rfl

theorem keypadOutcome_outcome (r : Result) (d : Device) : (keypadOutcome r d).keypad.outcome = some (r, .code) := by
  unfold keypadOutcome
  dsimp only
  split
  · split
    · rw [(addRecord_keeps _ _).keypad]; rfl
    · rfl
  · rfl
  · rfl

/-- A report of an acceptance writes no record (R86, R87, R88). -/
theorem reportOutcome_accepted_log (c : QueuedCode) (f : Option (Digit × Nat)) (d : Device) :
    (reportOutcome c .accepted f d).log = d.log := by
  unfold reportOutcome
  cases c.source <;> rfl

theorem classEffect_keeps (f : CodeFields) (d : Device) :
    keepsBut [.account, .residue, .tamper, .load, .tariffs, .codes, .intake, .relay, .log, .host] d (classEffect f d) := by
  unfold classEffect
  split
  · exact keepsBut_mono (topUp_keeps _ d) (by decide)
  · exact keepsBut_mono (debtSet_keeps _ _ d) (by decide)
  · exact keepsBut_mono (clearTamper_keeps _ d) (by decide)
  · exact keepsBut_mono (writeLimit_keeps _ d) (by decide)
  · exact keepsBut_mono (confirmTariff_keeps d) (by decide)
  · exact keepsBut_mono (serviceOpen_keeps _ d) (by decide)
  · exact keepsBut_mono (clearAccount_keeps d) (by decide)
  · exact keepsBut_refl _ d

/-- The part with the listing done, before the record of the acceptance (R82). -/
def listedPart (f : CodeFields) (d : Device) : Device :=
  if exemptCode f d.codes then classEffect f d else listCode f (classEffect f d)

theorem acceptCode_eq (f : CodeFields) (d : Device) :
    acceptCode f d = addRecord (.codeAccepted (f.codeClass.val * 1000000 + f.issue) f.value) (listedPart f d) := rfl

theorem listedPart_keeps (f : CodeFields) (d : Device) : keepsBut [.codes] (classEffect f d) (listedPart f d) := by
  unfold listedPart
  split
  · exact keepsBut_refl _ _
  · exact listCode_keeps f _

theorem acceptCode_keeps (f : CodeFields) (d : Device) : keepsBut [.codes, .log, .host] (classEffect f d) (acceptCode f d) :=
  keepsBut_comp (listedPart_keeps f d) (addRecord_keeps _ _)

/-- The record of the acceptance is the last, where the numbers suffice for the class's own (R82). -/
theorem acceptCode_record {f : CodeFields} {d : Device} (h : d.log.next + 4 ≤ 4294967296) :
    (acceptCode f d).log.records.getLast? = some {
      number := (acceptCode f d).log.next - 1, time := timeMark d,
      data := .codeAccepted (f.codeClass.val * 1000000 + f.issue) f.value } := by
  have hgrew := (classEffect_grew f d).next
  have hlisted := listedPart_keeps f d
  have hnext : (listedPart f d).log.next < Config.numberEnd := by
    rw [hlisted.log]
    exact lt_of_le_of_lt hgrew (Nat.lt_of_succ_le h)
  rw [acceptCode_eq, addRecord_log hnext, List.getLast?_concat, hlisted.timeMark, (classEffect_keeps f d).timeMark]
  rfl

/-- An accepted number is spent as its code is listed, in whatever list (R83). -/
theorem listCode_spends (f : CodeFields) (d : Device) : issueSpent f.issue (listCode f d) := by
  have hmem : usedEntry f d ∈ insertUsed (usedEntry f d) d.codes.used := mem_insertUsed.mpr (.inl rfl)
  rcases listCode_cases f d with ⟨h, _⟩ | ⟨lowest, rest, hlisted, h⟩ <;> rw [h]
  · exact .inr (List.mem_map_of_mem (f := UsedCode.issue) hmem)
  · rw [hlisted] at hmem
    rcases List.mem_cons.mp hmem with rfl | hrest
    · exact .inl (Nat.lt_succ_self _)
    · exact .inr (List.mem_map_of_mem (f := UsedCode.issue) hrest)

theorem acceptCode_spends {f : CodeFields} {d : Device} (h : exemptCode f d.codes = false) :
    issueSpent f.issue (acceptCode f d) := by
  have hspent := listCode_spends f (classEffect f d)
  have hcodes : (acceptCode f d).codes = (listCode f (classEffect f d)).codes := by
    rw [acceptCode_eq, (addRecord_keeps _ _).codes, listedPart, if_neg (by simp [h])]
  unfold issueSpent usedIssues at hspent ⊢
  rwa [hcodes]

theorem acceptCode_exempt {f : CodeFields} {d : Device} (h : exemptCode f d.codes = true) :
    (acceptCode f d).codes.used = d.codes.used ∧ (acceptCode f d).codes.floor = d.codes.floor := by
  rw [acceptCode_eq, (addRecord_keeps _ _).codes, listedPart, if_pos h, classEffect_codes]
  exact ⟨rfl, rfl⟩

theorem classEffect_window {f : CodeFields} {d : Device} (h : f.codeClass ≠ 5) :
    (classEffect f d).codes.windowMinutes = d.codes.windowMinutes := by
  unfold classEffect
  split
  · rw [(topUp_keeps _ d).codes]
  · rw [(debtSet_keeps _ _ d).codes]
  · rw [(clearTamper_keeps _ d).codes]
  · rw [(writeLimit_keeps _ d).codes]
  · rw [(confirmTariff_keeps d).codes]
  case h_6 h5 => exact absurd (Fin.ext h5) h
  · rw [(clearAccount_keeps d).codes]
  · rfl

/-- The part with its check operation idle (R74). -/
def checkIdle (d : Device) : Device := d.setCodes { d.codes with inCheck := none }

theorem judgedDevice_idle {c : QueuedCode} {d : Device}
    (h : (judgeCode c.digits d).1 ≠ .accepted ∨ ∃ f ∈ (judgeCode c.digits d).2, f.codeClass = 7) :
    judgedDevice c d = checkIdle d := by
  rcases judgedDevice_cases c d with hidle | ⟨f, hjudged, h7, _⟩
  · exact hidle
  · rw [hjudged] at h
    rcases h with h | ⟨g, hg, hg7⟩
    · exact absurd rfl h
    · exact absurd (Option.some.inj (Option.mem_def.mp hg) ▸ hg7) h7

theorem judgedDevice_accepted {c : QueuedCode} {d : Device} {f : CodeFields}
    (haccepted : (judgeCode c.digits d).1 = .accepted) (hf : f ∈ (judgeCode c.digits d).2) (h7 : f.codeClass ≠ 7) :
    judgedDevice c d = acceptCode f (checkIdle d) := by
  have hverdict : judgeCode c.digits d = (.accepted, some f) := Prod.ext haccepted (Option.mem_def.mp hf)
  rcases judgedDevice_cases c d with hidle | ⟨g, hjudged, _, hg⟩
  · unfold judgedDevice
    simp only [hverdict, if_neg h7, checkIdle]
  · rw [hverdict] at hjudged
    obtain rfl : f = g := by simpa using hjudged
    exact hg

/-- The blocks that a report moves, and the check that is started after it. -/
def reportBlocks : List Block := [.codes, .keypad, .service, .log, .host]

section
variable (c : QueuedCode) (d : Device)

/-- The part as a check completion leaves it, the display noted. -/
def checkedPart : Device := noteDisplay d (completeCheck c d)

theorem checkedPart_keeps : keepsBut reportBlocks (judgedDevice c d) (checkedPart c d) := by
  unfold checkedPart
  rw [completeCheck_eq]
  exact keepsBut_trans (keepsBut_comp
    (keepsBut_mono (m := [.keypad, .service, .log, .host]) (reportOutcome_keeps c _ _ _) (by decide))
    (startCheck_keeps _)) (keepsBut_mono (noteDisplay_keeps _ _) (by simp))

/-- The next code goes in check, and the rest stands (R74). -/
theorem checkedPart_codes :
    (checkedPart c d).codes
      = { (judgedDevice c d).codes with inCheck := d.codes.queue.head?, queue := d.codes.queue.drop 1 }
      ∧ (checkedPart c d).codes.nextTicket = d.codes.nextTicket := by
  have hjudged := judgedDevice_codes c d
  have hcodes : (checkedPart c d).codes
      = { (judgedDevice c d).codes with inCheck := d.codes.queue.head?, queue := d.codes.queue.drop 1 } := by
    unfold checkedPart
    rw [noteDisplay_codes, completeCheck_eq, startCheck_idle (by rw [reportOutcome_codes, hjudged]), reportOutcome_codes,
      hjudged]
  refine ⟨hcodes, ?_⟩
  rw [hcodes, hjudged]

/-- The report to the keypad, or the record of the port that submitted the code (R86, R87, R88). -/
theorem checkedPart_report :
    (c.source = .keypad → (checkedPart c d).keypad.outcome = some ((judgeCode c.digits d).1, .code))
      ∧ (c.source = .meterHost →
          (checkedPart c d).host.lastResult = some {
              ticket := c.ticket, outcome := (judgeCode c.digits d).1,
              classIssue := (judgeCode c.digits d).2.map fun f => (f.codeClass, f.issue) }
            ∧ (checkedPart c d).host.seen = d.host.seen ||| (1#14 <<< outcomeBit (judgeCode c.digits d).1)
            ∧ hasNotice (checkedPart c d).host.notices .codeResult = true)
      ∧ (c.source = .service →
          (checkedPart c d).service.lastResult = some {
              ticket := c.ticket, outcome := (judgeCode c.digits d).1,
              classIssue := (judgeCode c.digits d).2.map fun f => (f.codeClass, f.issue) }) := by
  have hbody : hostBody (judgedDevice c d).host = hostBody d.host := judgedDevice_laws c d .host (by decide)
  have hseen : (judgedDevice c d).host.seen = d.host.seen := by
    have hfield := congrArg HostPort.seen hbody
    exact hfield
  unfold checkedPart
  rw [noteDisplay_keypad, noteDisplay_host, noteDisplay_service, completeCheck_eq, (startCheck_keeps _).keypad,
    (startCheck_keeps _).host, (startCheck_keeps _).service]
  refine ⟨fun h => ?_, fun h => ?_, fun h => ?_⟩
  · simp only [reportOutcome, h, keypadOutcome_outcome]
  · simp only [reportOutcome, h]
    exact ⟨rfl, by rw [← hseen]; rfl, hasNotice_raise _ _⟩
  · simp only [reportOutcome, h]
    rfl

end

theorem exec_checkCompletion {s : State} {c : QueuedCode} (h : s.device.codes.inCheck = some c) :
    exec .checkCompletion s = takeEvent s (completeCheck c) := by
  show execCheckCompletion s = _
  unfold execCheckCompletion
  rw [takeEvent_eq, takeEvent_eq]
  simp only [h]

section
variable {c : QueuedCode} {d : Device} {f : CodeFields} (hjudged : judgedDevice c d = acceptCode f (checkIdle d))
include hjudged

/-- What an accepted code leaves outside the check, the report and the record is its class's (R82). -/
theorem checkedPart_effect : keepsBut reportBlocks (classEffect f (checkIdle d)) (checkedPart c d) := by
  have hchecked := checkedPart_keeps c d
  rw [hjudged] at hchecked
  exact keepsBut_comp (acceptCode_keeps f (checkIdle d)) hchecked

/-- A class whose effect does not read the Code Checker. -/
theorem checkedPart_class {e : Device}
    (heffect : classEffect f (checkIdle d) = e.setCodes { d.codes with inCheck := none }) :
    keepsBut reportBlocks e (checkedPart c d) := by
  have hkept := checkedPart_effect hjudged
  rw [heffect] at hkept
  exact keepsBut_trans (keepsBut_mono (setCodes_keeps e _) (by decide)) hkept

end

theorem serviceOpen_checkIdle (m : Nat) (d : Device) :
    (serviceOpen m (checkIdle d)).codes.windowMinutes = (serviceOpen m d).codes.windowMinutes
      ∧ (serviceOpen m (checkIdle d)).intake = (serviceOpen m d).intake := by
  unfold serviceOpen
  split
  · exact ⟨rfl, rfl⟩
  · have hclose : ∀ e : Device, (closeWindow e).codes.windowMinutes = 0
        ∧ (closeWindow e).intake = { e.intake with testActive := false } := fun e =>
      ⟨by rw [closeWindow, (endTest_keeps _ _).codes]; rfl, endTest_intake _ _⟩
    rw [show (checkIdle d).codes.windowMinutes = d.codes.windowMinutes from rfl]
    split
    · rw [(hclose _).1, (hclose _).1, (hclose _).2, (hclose _).2]
      exact ⟨rfl, rfl⟩
    · exact ⟨rfl, rfl⟩

theorem answers_checked {s : State} {c : QueuedCode} {after : Device → Prop} (hcheck : s.device.codes.inCheck = some c)
    (h : after (checkedPart c s.device)) : answers .checkCompletion s after :=
  answers_of_takeEvent (exec_checkCompletion hcheck) h

/-- Settles O22: the report and the next check follow the judgement, whose effect is the class's. -/
theorem checkCompletionJudgesAndReports : Obligations.CheckCompletionJudgesAndReports := by
  intro s c hcheck verdict last
  refine answers_checked hcheck ?_
  obtain ⟨hcodes, hticket⟩ := checkedPart_codes c s.device
  obtain ⟨hkeypad, hhost, hservice⟩ := checkedPart_report c s.device
  refine ⟨by rw [hcodes], by rw [hcodes], hticket, hkeypad, hhost, hservice, fun hidle => ?_,
    fun haccepted f hf h7 => ?_⟩
  · have hjudged := judgedDevice_idle hidle
    have hframe := checkedPart_keeps c s.device
    rw [hjudged] at hframe hcodes
    change _ ∧ (checkedPart c s.device).codes.used = _ ∧ (checkedPart c s.device).codes.floor = _
      ∧ (checkedPart c s.device).codes.windowMinutes = _
    rw [hcodes]
    exact ⟨keepsBut_comp (setCodes_keeps s.device { s.device.codes with inCheck := none }) hframe, rfl, rfl, rfl⟩
  · have hjudged := judgedDevice_accepted haccepted hf h7
    have hkept : keepsBut reportBlocks (classEffect f (checkIdle s.device)) (checkedPart c s.device) :=
      checkedPart_effect hjudged
    rw [hjudged] at hcodes
    have hlists : (checkedPart c s.device).codes.used = (acceptCode f (checkIdle s.device)).codes.used
        ∧ (checkedPart c s.device).codes.floor = (acceptCode f (checkIdle s.device)).codes.floor
        ∧ (checkedPart c s.device).codes.windowMinutes = (classEffect f (checkIdle s.device)).codes.windowMinutes := by
      have hwindow := congrArg Codes.windowMinutes (acceptCode_codes f (checkIdle s.device))
      rw [hcodes]
      exact ⟨rfl, rfl, hwindow⟩
    obtain ⟨hused, hfloor, hwindow⟩ := hlists
    have hlog : (checkedPart c s.device).log = (acceptCode f (checkIdle s.device)).log := by
      have haccept : (judgeCode c.digits s.device).1 = .accepted := haccepted
      rw [checkedPart, noteDisplay_log, completeCheck_eq, (startCheck_keeps _).log, haccept, reportOutcome_accepted_log, hjudged]
    change ((_ → issueSpent f.issue (checkedPart c s.device))
      ∧ (_ → (checkedPart c s.device).codes.used = _ ∧ (checkedPart c s.device).codes.floor = _)
      ∧ (_ → (checkedPart c s.device).codes.windowMinutes = _)
      ∧ (_ → (checkedPart c s.device).log.records.getLast? = some {
          number := (checkedPart c s.device).log.next - 1, time := _, data := _ }) ∧ _)
    refine ⟨fun hexempt => ?_, fun hexempt => ?_, fun h5 => ?_, fun hnumbers => ?_, fun h0 => ?_, fun h1 => ?_, fun h2 => ?_,
      fun h3 => ?_, fun h4 => ?_, fun h5 => ?_, fun h6 => ?_⟩
    · have hspent := acceptCode_spends (d := checkIdle s.device) hexempt
      unfold issueSpent usedIssues at hspent ⊢
      rwa [hused, hfloor]
    · rw [hused, hfloor]
      exact acceptCode_exempt (d := checkIdle s.device) hexempt
    · rw [hwindow]
      exact classEffect_window h5
    · rw [hlog]
      exact acceptCode_record (d := checkIdle s.device) hnumbers
    · have hclass := checkedPart_class hjudged (e := topUp f.value s.device)
        (by simp only [classEffect, show f.codeClass.val = 0 from congrArg Fin.val h0, checkIdle, topUp_setCodes])
      exact ⟨hclass.account, hclass.relay, keepsBut_comp (topUp_keeps _ _) hclass⟩
    · have hclass := checkedPart_class hjudged (e := debtSet f.value f.parameter s.device)
        (by simp only [classEffect, show f.codeClass.val = 1 from congrArg Fin.val h1, checkIdle, debtSet_setCodes])
      exact ⟨hclass.account, keepsBut_comp (debtSet_keeps _ _ _) hclass⟩
    · have hclass := checkedPart_class hjudged (e := clearTamper f.parameter s.device)
        (by simp only [classEffect, show f.codeClass.val = 2 from congrArg Fin.val h2, checkIdle, clearTamper_setCodes])
      exact ⟨hclass.tamper, hclass.relay, keepsBut_comp (clearTamper_keeps _ _) hclass⟩
    · have hclass := checkedPart_class hjudged (e := writeLimit f.value s.device)
        (by simp only [classEffect, show f.codeClass.val = 3 from congrArg Fin.val h3, checkIdle, writeLimit_setCodes])
      exact ⟨hclass.load, hclass.relay, keepsBut_comp (writeLimit_keeps _ _) hclass⟩
    · have hclass := checkedPart_class hjudged (e := confirmTariff s.device)
        (by simp only [classEffect, show f.codeClass.val = 4 from congrArg Fin.val h4, checkIdle, confirmTariff_setCodes])
      exact ⟨hclass.tariffs, keepsBut_comp (confirmTariff_keeps _) hclass⟩
    · have heffect : classEffect f (checkIdle s.device) = serviceOpen f.value (checkIdle s.device) := by
        simp only [classEffect, show f.codeClass.val = 5 from congrArg Fin.val h5]
      rw [heffect] at hkept hwindow
      obtain ⟨hminutes, hintake⟩ := serviceOpen_checkIdle f.value s.device
      exact ⟨hwindow.trans hminutes, hkept.intake.trans hintake,
        keepsBut_comp (keepsBut_comp (n := [.codes, .intake, .log, .host]) (setCodes_keeps s.device _)
          (serviceOpen_keeps f.value (checkIdle s.device))) hkept⟩
    · have hclass := checkedPart_class hjudged (e := clearAccount s.device)
        (by simp only [classEffect, show f.codeClass.val = 6 from congrArg Fin.val h6, checkIdle, clearAccount_setCodes])
      exact ⟨hclass.account, hclass.residue.trans (clearAccount_residue _), hclass.relay,
        keepsBut_comp (clearAccount_keeps _) hclass⟩

end Sys2Proof.Machine
end

section
/-! PROOFS. O50, O51 and O52: the writes of configuration and of the function table, and the meter test's start and end. -/

namespace Sys2Proof.Machine

/-- What a request has left is what the port answers over. -/
theorem serviceAnswered_keeps (old : Device) (code : Byte) (a : Answer) (e : Device) :
    keepsBut [.service] e (noteDisplay old (replyWith code (some a) e)) :=
  keepsBut_trans (setService_keeps e _) (keepsBut_mono (noteDisplay_keeps old _) (by simp))

/-! ### Settling O50 -/

theorem writeRate_rate (r : LinkRate) (d : Device) : (writeRate r d).link.rate = r := rfl

theorem writeAction_keeps (s : Source) (a : SourceAction) (d : Device) :
    keepsBut [.tamper, .relay, .log, .host] d (writeAction s a d) := by
  unfold writeAction
  dsimp only
  split
  · exact keepsBut_comp (setSource_keeps _ _ d) (evaluateTamper_keeps _)
  · exact keepsBut_mono (setSource_keeps _ _ d) (by decide)

theorem writeAction_action (s : Source) (a : SourceAction) (d : Device) :
    (sourceEntry (writeAction s a d) s).action = a := by
  unfold writeAction
  dsimp only
  split
  · rw [(evaluateTamper_keeps _).sourceEntry, sourceEntry_setSource]
  · rw [sourceEntry_setSource]

theorem writeLimit_load (n : Nat) (d : Device) :
    if n = 0 then (writeLimit n d).load.limit = 0 ∧ (writeLimit n d).load.pendingLimit = none
    else (writeLimit n d).load.pendingLimit = some n := by
  unfold writeLimit
  rcases Nat.eq_zero_or_pos n with rfl | hpos
  · rw [if_pos rfl, if_neg (Nat.lt_irrefl 0), (setReason_keeps _ _ _).load]
    exact ⟨rfl, rfl⟩
  · rw [if_neg hpos.ne', if_pos hpos]
    rfl

/-- The blocks that a configuration write may move. -/
def configBlocks : List Block := [.account, .settings, .codes, .link, .relay, .load, .tamper, .log, .host]

theorem configEffect_keeps (w : ConfigWrite) (d : Device) : keepsBut configBlocks d (configEffect w d) := by
  cases w with
  | lowLevel n => exact keepsBut_comp (setSettings_keeps d _) (recomputeCredit_keeps _)
  | friendlyFloor x => exact keepsBut_comp (setSettings_keeps d _) (recomputeCreditReason_keeps _)
  | emergencyAmount n => exact keepsBut_mono (setSettings_keeps d _) (by decide)
  | emergencyThreshold n => exact keepsBut_mono (setSettings_keeps d _) (by decide)
  | friendlyWindow i e => exact keepsBut_comp (setSettings_keeps d _) (recomputeCreditReason_keeps _)
  | codeValidityDays n => exact keepsBut_mono (setCodes_keeps d _) (by decide)
  | linkRate r => exact keepsBut_comp (stopLink_keeps d) (keepsBut_comp (n := [.link]) (setLink_keeps _ _) (startLink_keeps _))
  | loadLimit n => exact keepsBut_mono (writeLimit_keeps n d) (by decide)
  | bypassThreshold n => exact keepsBut_mono (setTamper_keeps d _) (by decide)
  | reverseThreshold n => exact keepsBut_mono (setTamper_keeps d _) (by decide)
  | sourceAction s a => exact keepsBut_mono (writeAction_keeps s a d) (by decide)

theorem configEffect_codes (w : ConfigWrite) (d : Device) :
    (configEffect w d).codes = { d.codes with validityDays := (configEffect w d).codes.validityDays } := by
  have hkept : ∀ e : Device, e.codes = d.codes → e.codes = { d.codes with validityDays := e.codes.validityDays } :=
    fun e h => by rw [h]
  cases w with
  | codeValidityDays n => rfl
  | lowLevel n => exact hkept _ (recomputeCredit_keeps _).codes
  | friendlyFloor x => exact hkept _ (recomputeCreditReason_keeps _).codes
  | friendlyWindow i e => exact hkept _ (recomputeCreditReason_keeps _).codes
  | emergencyAmount n | emergencyThreshold n | bypassThreshold n | reverseThreshold n | linkRate r => exact hkept _ rfl
  | loadLimit n => exact hkept _ (writeLimit_keeps n d).codes
  | sourceAction s a => exact hkept _ (writeAction_keeps s a d).codes

/-- The block holds the value as written (Table 10-3). -/
theorem configEffect_held (w : ConfigWrite) (d : Device) : configHeld w (configEffect w d) := by
  cases w with
  | lowLevel n =>
    exact congrArg Settings.lowLevel (recomputeCredit_keeps (d.setSettings { d.settings with lowLevel := n })).settings
  | friendlyFloor x =>
    exact congrArg Settings.friendlyFloor
      (recomputeCreditReason_keeps (d.setSettings { d.settings with friendlyFloor := x })).settings
  | friendlyWindow i e =>
    have hsettings := (recomputeCreditReason_keeps
      (d.setSettings { d.settings with windows := d.settings.windows.set i e })).settings
    show (recomputeCreditReason _).settings.windows[i] = e
    rw [hsettings]
    exact Vector.getElem_set_self _
  | emergencyAmount n | emergencyThreshold n | codeValidityDays n | bypassThreshold n | reverseThreshold n => rfl
  | linkRate r => exact writeRate_rate r d
  | loadLimit n => exact writeLimit_load n d
  | sourceAction s a => exact writeAction_action s a d

theorem keepsBut.rate {l : List Block} {d e : Device} (h : keepsBut l d e) (hl : .link ∉ l := by decide) :
    e.link.rate = d.link.rate := by
  have hbody := h.linkBody hl
  have hrate := congrArg Link.rate hbody
  exact hrate

theorem configHeld_congr {w : ConfigWrite} {d e : Device} (h : keepsBut [.service] d e) (hd : configHeld w d) :
    configHeld w e := by
  unfold configHeld at hd ⊢
  rw [h.settings, h.codes, h.rate, h.load, h.tamper]
  cases w
  case sourceAction s a => exact (congrArg SourceEntry.action (h.sourceEntry s)).trans hd
  all_goals exact hd

theorem evaluateTamper_grew (d : Device) : LogGrew 1 d (evaluateTamper d) := setReasons_grew _ d

theorem recomputeCreditReason_grew (d : Device) : LogGrew 1 d (recomputeCreditReason d) :=
  .ite (.same rfl) (setReasons_grew _ d)

theorem configEffect_grew (w : ConfigWrite) (d : Device) : LogGrew 2 d (configEffect w d) := by
  have hone : ∀ {e : Device}, LogGrew 1 d e → LogGrew 2 d e := fun h => h.trans (m := 0) (.same rfl)
  cases w with
  | lowLevel n => exact .after_same (recomputeCredit_grew _) rfl
  | friendlyFloor x => exact hone (.after_same (recomputeCreditReason_grew _) rfl)
  | friendlyWindow i e => exact hone (.after_same (recomputeCreditReason_grew _) rfl)
  | emergencyAmount n | emergencyThreshold n | codeValidityDays n | bypassThreshold n | reverseThreshold n | linkRate r =>
    exact .same rfl
  | loadLimit n => exact hone (writeLimit_grew n d)
  | sourceAction s a => exact hone (.ite (.after_same (evaluateTamper_grew _) rfl) (.same rfl))

/-- O50's part at the port: the record first, the effect, and the value in the answer. -/
theorem writeConfig_answers (s : State) (p : List Byte) (hready : serviceReady 0x4E p s.device)
    (hopen : 0 < s.device.codes.windowMinutes) :
    (configWrite p = none →
        answers (.writeConfig p) s fun d => replied 0x4E (refusal .badValue) s.device d ∧ keepsBut [.service] s.device d)
      ∧ ∀ w, configWrite p = some w →
        answers (.writeConfig p) s fun d =>
          configHeld w d ∧ replied 0x4E (accepted (configData w)) s.device d
            ∧ d.codes = { s.device.codes with validityDays := d.codes.validityDays }
            ∧ keepsBut [.account, .settings, .codes, .link, .relay, .load, .tamper, .log, .host, .service] s.device d
            ∧ (logRoom 3 s.device →
                d.log.records.take (s.device.log.records.length + 1)
                  = s.device.log.records
                    ++ [{ number := s.device.log.next, time := timeMark s.device, data := configRecord w }]) := by
  have hchanging := changing_open (h := configHandler p) (d := huntService s.device) hopen
  refine ⟨fun hnone => answers_serviceOnly rfl hready ?_, fun w hw => ?_⟩
  · rw [handleWriteConfig, hchanging, configHandler, hnone]
  · have hserved : handleWriteConfig p (huntService s.device)
        = (configEffect w (addRecord (configRecord w) (huntService s.device)), some (accepted (configData w))) := by
      rw [handleWriteConfig, hchanging, configHandler, hw]
    have hframe := keepsBut_comp (n := configBlocks) (addRecord_keeps (configRecord w) (huntService s.device))
      (configEffect_keeps w _)
    refine answers_serviceFrame (m := [.account, .settings, .codes, .link, .relay, .load, .tamper, .log, .host, .service])
      rfl hready hserved hframe (by decide) (by decide) (by decide) ?_
    rintro d rfl hreplied hkept
    have hanswered := serviceAnswered_keeps s.device 0x4E (accepted (configData w))
      (configEffect w (addRecord (configRecord w) (huntService s.device)))
    refine ⟨configHeld_congr hanswered (configEffect_held w _), hreplied, ?_, hkept, fun hroom => ?_⟩
    · rw [hanswered.codes, configEffect_codes, (addRecord_keeps _ _).codes]
      rfl
    · rw [hanswered.log]
      exact take_first_record (n := 2) (d := huntService s.device) hroom rfl (configEffect_grew w _)

theorem clampThreshold_byte (a : Byte) : clampThreshold a.toNat = max 1 a.toNat := by
  have h := a.isLt
  unfold clampThreshold
  omega

theorem sourceOfNumber_number (x : Source) : sourceOfNumber (sourceNumber x).val = some x := by cases x <;> rfl

theorem sourceOfNumber_high {n : Nat} (h : 8 ≤ n) : sourceOfNumber n = none := List.getElem?_eq_none_iff.mpr h

/-- Each item has its own count of parameters (Table 10-3). -/
theorem configWrite_length {item : Byte} {rest : List Byte} {w : ConfigWrite} (h : configWrite (item :: rest) = some w) :
    [3, 4, 3, 3, 6, 2, 2, 3, 1, 1, 2][item.toNat]? = some rest.length := by
  unfold configWrite at h
  split at h
  case h_12 => cases h
  all_goals
    rename_i heq
    obtain ⟨rfl, rfl⟩ := List.cons.inj heq
    rfl

/-- Settles O50: the port's part, and the clamps of Table 10-3. -/
theorem writeConfigStoresTheClampedValue : Obligations.WriteConfigStoresTheClampedValue := by
  refine ⟨writeConfig_answers, fun a b c => ⟨rfl, rfl, rfl, rfl⟩, fun a b c e => rfl,
    fun i a b c e mask => ⟨fun h => ?_, fun h => ?_⟩,
    fun a b => ⟨rfl, fun h => ?_, fun h k => ?_, fun h k => ?_, fun h => ?_⟩, fun a => ⟨?_, ?_⟩,
    fun i a => ⟨fun x hx => ?_, fun h => ?_⟩, rfl, fun item rest w => configWrite_length⟩
  · exact dif_pos h
  · exact dif_neg (Nat.not_lt.mpr h)
  · show some (ConfigWrite.linkRate (rateOf (beNat [a, b]))) = _
    rw [rateOf, if_neg (by omega), if_neg (by omega), if_neg (by omega)]
  · show some (ConfigWrite.linkRate (rateOf (beNat [a, b]))) = _
    rw [rateOf, if_neg (by omega), if_neg (by omega), if_pos k]
  · show some (ConfigWrite.linkRate (rateOf (beNat [a, b]))) = _
    rw [rateOf, if_neg (by omega), if_pos k]
  · show some (ConfigWrite.linkRate (rateOf (beNat [a, b]))) = _
    rw [rateOf, if_pos h]
  · show some (ConfigWrite.bypassThreshold (clampThreshold a.toNat)) = _
    rw [clampThreshold_byte]
  · show some (ConfigWrite.reverseThreshold (clampThreshold a.toNat)) = _
    rw [clampThreshold_byte]
  · show (sourceOfNumber i.toNat).map (fun s => ConfigWrite.sourceAction s (actionOf a)) = _
    rw [← hx, sourceOfNumber_number]
    rfl
  · show (sourceOfNumber i.toNat).map (fun s => ConfigWrite.sourceAction s (actionOf a)) = _
    rw [sourceOfNumber_high h]
    rfl

/-! ### Settling O51 -/

theorem auxChanged_tamper (before : Option Position) (d : Device) : (auxChanged before d).tamper = d.tamper :=
  (auxChanged_keeps before d).tamper

theorem tableHandler_written {l f p a b : Byte} {function : LineFunction} {polarity : Bool} (h : l.toNat < 6)
    (hf : functionOf f = some function) (hp : polarityOf p = some polarity) (d : Device) :
    tableHandler [l, f, p, a, b] d
      = (writeTable ⟨l.toNat, h⟩
          { function := function, activeHigh := polarity, filterTime := clampFilter (beNat [a, b]) } d, accepted []) := by
  simp only [tableHandler, hf, hp, dif_pos h]

theorem tableHandler_refused {l f p a b : Byte} (h : 5 < l.toNat ∨ 5 < f.toNat ∨ 1 < p.toNat) (d : Device) :
    tableHandler [l, f, p, a, b] d = (d, refusal .badValue) := by
  unfold tableHandler
  dsimp only
  split
  case h_2 => rfl
  case h_1 function polarity hf hp =>
    rcases h with h | h | h
    · exact dif_neg (Nat.not_lt.mpr h)
    · have hnone : functionOf f = none := List.getElem?_eq_none_iff.mpr h
      rw [hnone] at hf
      cases hf
    · have hnone : polarityOf p = none := List.getElem?_eq_none_iff.mpr h
      rw [hnone] at hp
      cases hp

/-- Settles O51: the entry and the line are one update; the Relay Controller takes what the auxiliary position becomes. -/
theorem functionTableWriteRearms : Obligations.FunctionTableWriteRearms := by
  intro s l f pol hi lo hready hopen
  have hchanging := changing_open (h := tableHandler [l, f, pol, hi, lo]) (d := huntService s.device) hopen
  refine ⟨fun h function up hfunction hup => ?_, fun hrefused => answers_serviceOnly rfl hready ?_⟩
  · have hserved : handleWriteFunctionTable [l, f, pol, hi, lo] (huntService s.device)
        = (writeTable ⟨l.toNat, h⟩
            { function := function, activeHigh := up, filterTime := clampFilter (beNat [hi, lo]) } (huntService s.device),
            some (accepted [])) := by
      rw [handleWriteFunctionTable, hchanging, tableHandler_written h hfunction hup]
    have hframe : keepsBut [.tamper, .relay, .intake, .log, .host] (huntService s.device)
        (writeTable ⟨l.toNat, h⟩
          { function := function, activeHigh := up, filterTime := clampFilter (beNat [hi, lo]) } (huntService s.device)) :=
      keepsBut_comp (setTamper_keeps _ _) (auxChanged_keeps _ _)
    refine answers_serviceFrame (m := [.tamper, .relay, .intake, .log, .host, .service]) rfl hready hserved hframe
      (by decide) (by decide) (by decide) ?_
    rintro d rfl hreplied hkept
    refine ⟨?_, hreplied, hkept⟩
    rw [(serviceAnswered_keeps _ _ _ _).tamper, writeTable_eq, auxChanged_tamper]
    have htime : beNat [hi, lo] = hi.toNat * 256 + lo.toNat := by simp [beNat]
    rw [htime]
    rfl
  · rw [handleWriteFunctionTable, hchanging, tableHandler_refused hrefused]

/-! ### Settling O52 -/

/-- Without a running test its end changes nothing (R18). -/
theorem endTest_inactive {d : Device} (h : d.intake.testActive = false) (c : TestCause) : endTest c d = d :=
  if_neg (by simp [h])

/-- A running test ends with its record (R18). -/
theorem endTest_recorded {d : Device} (h : d.intake.testActive = true) (hroom : logRoom 1 d) (c : TestCause) :
    recorded (.testEnd d.intake.testImport.toList.sum c) d (endTest c d) := by
  obtain ⟨hplaces, hnumbers⟩ := hroom
  unfold endTest recorded
  rw [if_pos h]
  exact addRecord_records (d := d.setIntake { d.intake with testActive := false }) (Nat.lt_of_succ_le hnumbers)
    (Nat.lt_of_succ_le hplaces)

/-- What the log shows of a test that a request ends. -/
theorem endTest_log {s : Device} {e f : Device} (hended : e = endTest .endRequest (huntService s)) (hlog : f.log = e.log)
    (hhost : f.host = e.host) :
    (s.intake.testActive = false → f.log = s.log ∧ f.host = s.host)
      ∧ (s.intake.testActive = true → logRoom 1 s →
          recorded (.testEnd s.intake.testImport.toList.sum .endRequest) s f) := by
  rw [hlog, hhost, hended]
  refine ⟨fun hidle => ?_, fun hactive hroom => ?_⟩
  · rw [endTest_inactive (d := huntService s) hidle]
    exact ⟨rfl, rfl⟩
  · have hrecorded := endTest_recorded (d := huntService s) hactive hroom .endRequest
    unfold recorded at hrecorded ⊢
    rw [hlog, hended]
    exact hrecorded

/-- Settles O52: a test ends by one operation, and TEST_START begins a fresh one after it. -/
theorem testStartsAndEnds : Obligations.TestStartsAndEnds := by
  refine fun s hopen => ⟨fun hready => ⟨fun hpart => ?_, fun hlost => answers_serviceOnly rfl hready ?_⟩,
    fun hready => ?_⟩
  · have hserved : handleTestStart [] (huntService s.device)
        = (beginTest (endTest .endRequest (huntService s.device)), some (accepted [])) := by
      rw [handleTestStart, changing_open (d := huntService s.device) hopen, noParameters_nil, testStartHandler]
      simp only [huntService, Device.setService_power, hpart]
    refine answers_serviceFrame (l := [.intake, .log, .host]) (m := [.intake, .log, .host, .service]) rfl hready hserved
      (keepsBut_comp (endTest_keeps _ _) (setIntake_keeps _ _)) (by decide) (by decide) (by decide) ?_
    rintro d rfl hreplied hkept
    obtain ⟨hidle, hactive⟩ := endTest_log (s := s.device) rfl
      (f := noteDisplay s.device (replyWith 0x56 (some (accepted [])) (beginTest (endTest .endRequest (huntService s.device)))))
      (noteDisplay_log _ _) (noteDisplay_host _ _)
    refine ⟨?_, hreplied, hkept, hidle, hactive⟩
    rw [(serviceAnswered_keeps _ _ _ _).intake, beginTest, Device.setIntake_intake, endTest_intake]
    rfl
  · rw [handleTestStart, changing_open (d := huntService s.device) hopen, noParameters_nil, testStartHandler]
    simp only [huntService, Device.setService_power, hlost]
  · have hserved : handleTestEnd [] (huntService s.device)
        = (endTest .endRequest (huntService s.device), some (accepted [])) := by
      rw [handleTestEnd, changing_open (d := huntService s.device) hopen, noParameters_nil]
      rfl
    refine answers_serviceFrame (m := [.intake, .log, .host, .service]) rfl hready hserved
      (endTest_keeps _ _) (by decide) (by decide) (by decide) ?_
    rintro d rfl hreplied hkept
    obtain ⟨hidle, hactive⟩ := endTest_log (s := s.device) rfl
      (f := noteDisplay s.device (replyWith 0x57 (some (accepted [])) (endTest .endRequest (huntService s.device))))
      (noteDisplay_log _ _) (noteDisplay_host _ _)
    refine ⟨?_, hreplied, hkept, hidle, hactive⟩
    rw [(serviceAnswered_keeps _ _ _ _).intake, endTest_intake]
    rfl

end Sys2Proof.Machine
end

section
/-! PROOFS. O49, O53 and O55: commissioning, the restored account, and the loss of mains. -/

namespace Sys2Proof.Machine

/-! ### Settling O49 -/

theorem noteDisplay_currentCredit {old e : Device} (h : e.relay.reasons.credit = creditReasonOf e) :
    (noteDisplay old e).relay.reasons.credit = creditReasonOf (noteDisplay old e) := by
  rw [noteDisplay_relay, h]
  exact (creditReasonOf_congr (noteDisplay_power _ _) (noteDisplay_account _ _) (noteDisplay_settings _ _)
    (noteDisplay_clock _ _)).symm

/-- A part in service has its account (R40). -/
theorem accountReasonOf_inService {d : Device} (h : d.power.part = .inService) : accountReasonOf d = false := by
  simp [accountReasonOf, h]

theorem commissionHandler_elsewhere {p : List Byte} (hlength : p.length = 36) {d : Device}
    (hpart : d.power.part ≠ .uncommissioned) :
    commissionHandler p d = (d, some (refusal .alreadyCommissioned)) := by
  rw [commissionHandler, if_neg (not_not.mpr hlength), if_pos hpart]

theorem commissionHandler_uncommissioned {p : List Byte} (hlength : p.length = 36) {d : Device}
    (hpart : d.power.part = .uncommissioned) :
    (digitsOf p = none → commissionHandler p d = (d, some (refusal .badValue)))
      ∧ ∀ digits, digitsOf p = some digits →
        commissionHandler p d
          = (d.setService
              { d.service with commissioning := some { serial := digits.take 12, key := digits.drop 12 } }, none) := by
  refine ⟨fun hdigits => ?_, fun digits hdigits => ?_⟩
  · rw [commissionHandler, if_neg (not_not.mpr hlength), if_neg (not_not.mpr hpart), hdigits]
  · rw [commissionHandler, if_neg (not_not.mpr hlength), if_neg (not_not.mpr hpart), hdigits]

/-- In UNCOMMISSIONED the end of the write in flight is the completion of R185. -/
theorem exec_commissionCompletion {s : State} {store : OneTime} (hflight : s.device.service.commissioning = some store)
    (hrun : running s.device = true) (hpart : s.device.power.part = .uncommissioned) :
    exec .commissionCompletion s = .next ⟨noteDisplay s.device (completeCommission store s.device), s.pending⟩ := by
  show execCommissionCompletion s = _
  unfold execCommissionCompletion
  rw [takeEvent_eq]
  simp only [hflight, hrun, hpart, and_self, if_true]

/-- Settles O49: the write begins or is refused by the handler's branches, and ends in the frame of a completed
commissioning. -/
theorem commissionRequestAndCompletion : Obligations.CommissionRequestAndCompletion := by
  refine fun s p hlength => ⟨fun hready => ⟨fun hpart => ?_, fun hpart hdigits => ?_, fun digits hpart hdigits => ?_⟩,
    fun store hflight hrun hpart => ?_⟩
  · exact answers_serviceOnly rfl hready (commissionHandler_elsewhere (d := huntService s.device) hlength hpart)
  · have hserved := (commissionHandler_uncommissioned (d := huntService s.device) hlength hpart).1 hdigits
    exact answers_serviceOnly rfl hready hserved
  · have hserved := (commissionHandler_uncommissioned (d := huntService s.device) hlength hpart).2 digits hdigits
    refine answers_of_takeEvent (f := serviceServe 0x4D p (handleCommission p)) rfl ?_
    rw [serviceServe_ready hready, handleCommission, hserved]
    exact ⟨noteDisplay_service _ _, keepsBut_noteDisplay (keepsBut_trans (huntService_keeps _) (setService_keeps _ _))⟩
  · obtain ⟨hframe, hone, hpower, haccount, hcodes, hservice, hreasons⟩ := completeCommission_frame store s.device
    have hexhausted : creditStateOf 0 s.device.settings.lowLevel = .exhausted := if_pos le_rfl
    refine ⟨_, exec_commissionCompletion hflight hrun hpart, rfl, (noteDisplay_oneTime _ _).trans hone,
      (noteDisplay_power _ _).trans hpower, ?_,
      (noteDisplay_codes _ _).trans hcodes, ?_, noteDisplay_currentCredit ?_, (noteDisplay_service _ _).trans hservice,
      keepsBut_noteDisplay (keepsBut_mono hframe (by decide))⟩
    · rw [noteDisplay_account, haccount, hexhausted]
      rfl
    · rw [noteDisplay_relay, hreasons]
      exact accountReasonOf_inService (congrArg Power.part hpower)
    · rw [hreasons]

/-! ### Settling O53 -/

theorem handAccountReasons_grew (d : Device) : LogGrew 1 d (handAccountReasons d) :=
  .ite (setReasons_grew _ d) ((setReasons_grew _ d).noticed _)

/-- A record looks at the log, the clock and the sources alone (R154, R155). -/
theorem addRecord_log_congr {d e : Device} (x : LogData) (hlog : e.log = d.log) (hclock : e.clock = d.clock)
    (htamper : e.tamper = d.tamper) : (addRecord x e).log = (addRecord x d).log := by
  rcases Nat.lt_or_ge d.log.next Config.numberEnd with hnext | hend
  · have hnext' : e.log.next < Config.numberEnd := by rw [hlog]; exact hnext
    simp only [addRecord_log hnext, addRecord_log hnext', timeMark, hlog, hclock, htamper]
  · rw [addRecord_exhausted hend, addRecord_exhausted (by rw [hlog]; exact hend), hlog]

theorem restoreAccount_grew (r : Restored) (d : Device) :
    LogGrew 2 (addRecord (.accountRestored r.balance r.debt) (restoredPart r d)) (restoreAccount r d) :=
  (recomputeCreditState_grew _).trans (handAccountReasons_grew _)

/-- The values that twelve parameters carry, clamped (R43, step 1). -/
def restoredValues (p : List Byte) : Restored :=
  { balance := clampBalance (beSigned (p.take 4)), debt := min (beNat ((p.drop 4).take 4)) Config.moneyTop,
    percent := min (beNat ((p.drop 8).take 1)) 100, floor := min (beNat (p.drop 9)) Config.floorTop }

theorem restoredOf_twelve {p : List Byte} (h : p.length = 12) : restoredOf p = some (restoredValues p) := if_pos h

theorem restoreHandler_twelve {p : List Byte} (h : p.length = 12) (d : Device) :
    restoreHandler p d
      = if d.power.part = .accountLost then (restoreAccount (restoredValues p) d, accepted [])
        else (d, refusal .wrongState) := by
  rw [restoreHandler, restoredOf_twelve h]

/-- Settles O53: the port serves one operation, whose frame names every value and whose record is written first. -/
theorem restoreAccountRebuilds : Obligations.RestoreAccountRebuilds := by
  intro s p hready hopen hlength
  have hchanging := changing_open (h := restoreHandler p) (d := huntService s.device) hopen
  rw [restoreHandler_twelve hlength] at hchanging
  refine ⟨fun hpart => answers_serviceOnly rfl hready ?_, fun hpart => ?_⟩
  · rw [handleRestoreAccount, hchanging, if_neg (c := (huntService s.device).power.part = _) hpart]
  · have hserved : handleRestoreAccount p (huntService s.device)
        = (restoreAccount (restoredValues p) (huntService s.device), some (accepted [])) := by
      rw [handleRestoreAccount, hchanging, if_pos (c := (huntService s.device).power.part = _) hpart]
    obtain ⟨hframe, haccount, hresidue, hcodes, hpower, hreasons⟩ :=
      restoreAccount_frame (restoredValues p) (huntService s.device)
    refine answers_serviceFrame (m := [.account, .residue, .codes, .power, .relay, .log, .host, .service])
      rfl hready hserved hframe (by decide) (by decide) (by decide) ?_
    rintro d rfl hreplied hkept
    have hanswered := serviceAnswered_keeps s.device 0x58 (accepted [])
      (restoreAccount (restoredValues p) (huntService s.device))
    refine ⟨hanswered.account.trans haccount, hanswered.residue.trans hresidue, hanswered.codes.trans hcodes,
      hanswered.power.trans hpower, ?_, ?_, hreplied, hkept, fun hroom => ?_⟩
    · rw [hanswered.relay, hreasons]
      exact accountReasonOf_inService (congrArg Power.part hpower)
    · rw [hanswered.relay, hreasons, creditReasonOf_congr hanswered.power hanswered.account hanswered.settings hanswered.clock]
    · rw [hanswered.log]
      exact take_first_record (n := 2) (d := huntService s.device)
        (x := .accountRestored (restoredValues p).balance (restoredValues p).debt)
        (e := addRecord (.accountRestored _ _) (restoredPart (restoredValues p) (huntService s.device))) hroom
        (addRecord_log_congr _ rfl rfl rfl) (restoreAccount_grew _ _)

/-! ### Settling O55 -/

/-- An aborted code is reported without a record (R85). -/
theorem reportOutcome_aborted_log (c : QueuedCode) (d : Device) : (reportOutcome c .aborted none d).log = d.log := by
  unfold reportOutcome
  cases c.source <;> rfl

theorem abortCodes_log (d : Device) : (abortCodes d).log = d.log := by
  have hkept : ∀ (l : List QueuedCode) (e : Device),
      (l.foldl (fun now c => reportOutcome c .aborted none now) e).log = e.log := by
    intro l
    induction l with
    | nil => exact fun _ => rfl
    | cons c l ih => exact fun e => (ih _).trans (reportOutcome_aborted_log c e)
  exact hkept _ _

/-- After the POWER_FAIL record a mains loss writes at most the running test's (R177). -/
theorem lossCleared_grew (d : Device) : LogGrew 1 (addRecord .powerFail (setSupply .battery d)) (lossCleared d) :=
  (endTest_grew .mainsLoss _).congr rfl (abortCodes_log _)

/-- The relay state that a mains loss leaves drives nothing (R126). -/
theorem drives_of_idle {d : Device} (h : inOperation d.relay.state = false) : openDrive d = false ∧ closeDrive d = false := by
  unfold openDrive closeDrive
  cases hstate : d.relay.state with
  | opening a | closing a => rw [hstate] at h; cases h
  | _ => exact ⟨rfl, rfl⟩

theorem loseMains_relay_state (d : Device) :
    (loseMains d).relay
      = { d.relay with
          state := if inOperation d.relay.state then settledState d.relay.lastConfirmed d.relay.reasons
            else d.relay.state } := by
  obtain ⟨_, _, _, _, _, _, _, hrelay⟩ := loseMains_frame d
  rw [hrelay]
  split <;> rfl

theorem loseMains_idle (d : Device) : inOperation (loseMains d).relay.state = false := by
  rw [loseMains_relay_state]
  show inOperation (if inOperation d.relay.state = true then _ else _) = false
  split
  · exact (settledState_idle _ _).1
  · next h => exact Bool.eq_false_iff.mpr h

/-- What a mains loss leaves of the entry, the demand window, the sources and the log. -/
theorem loseMains_rest (d : Device) :
    (loseMains d).keypad = clearEntry (abortCodes (endTest .mainsLoss (addRecord .powerFail (setSupply .battery d)))).keypad
      ∧ (loseMains d).load = { d.load with slots := Vector.replicate 12 0 }
      ∧ (loseMains d).tamper.sources = d.tamper.sources ∧ (loseMains d).log = (lossCleared d).log := by
  have hcleared := lossCleared_keeps d
  have hstopped : keepsBut [.link, .host, .service] (lossCleared d) (stopService (stopHost (stopLink (lossCleared d)))) :=
    keepsBut_comp (keepsBut_comp (n := [.link, .host]) (stopLink_keeps _) (stopHost_keeps _)) (stopService_keeps _)
  have habandoned := keepsBut_comp (n := [.link, .host, .service, .relay, .intake]) hstopped
    (abandonOperation_keeps (stopService (stopHost (stopLink (lossCleared d)))))
  have hended := keepsBut_comp (n := [.load, .tamper])
    (zeroDemand_keeps (abandonOperation (stopService (stopHost (stopLink (lossCleared d))))))
    (stopMainsLines_keeps _)
  rw [loseMains_eq]
  refine ⟨hended.keypad.trans habandoned.keypad, ?_, ?_, hended.log.trans habandoned.log⟩
  · rw [(stopMainsLines_keeps _).load, zeroDemand, Device.setLoad_load, habandoned.load, hcleared.load]
  · rw [stopMainsLines, Device.setTamper_tamper, (zeroDemand_keeps _).tamper, habandoned.tamper, hcleared.tamper]

/-- Settles O55: the loss is one operation, and its frame names what it leaves of each block. -/
theorem mainsLossStopsTheWork : Obligations.MainsLossStopsTheWork := by
  intro s hrun
  obtain ⟨hframe, hpower, htest, hcodes, hsending, hassembly, hservice, _⟩ := loseMains_frame s.device
  obtain ⟨hkeypad, hload, hsources, hlog⟩ := loseMains_rest s.device
  have hnoted := noteDisplay_keeps s.device (loseMains s.device)
  refine ⟨⟨noteDisplay s.device (loseMains s.device), s.pending⟩, ?_, rfl, ?_⟩
  · show execMainsLoss s = _
    unfold execMainsLoss
    rw [takeEvent_eq]
    simp only [hrun, if_true]
  · obtain ⟨_, _, _, _, hnotedAssembly, hnotedSending⟩ := link_fields_of_linkBody hnoted.linkBody
    obtain ⟨hopen, hclose⟩ := drives_of_idle
      ((congrArg (fun r => inOperation r.state) hnoted.relay).trans (loseMains_idle s.device))
    have hentry := hnoted.keypad.trans hkeypad
    have hport := hnoted.service.trans hservice
    refine ⟨hnoted.power.trans hpower, (congrArg Intake.testActive hnoted.intake).trans htest, hnoted.codes.trans hcodes,
      congrArg Keypad.buffer hentry, congrArg Keypad.stepTimer hentry, congrArg Keypad.page hentry,
      congrArg Keypad.inactivity hentry, hnoted.load.trans hload, hnotedSending.trans hsending,
      hnotedAssembly.trans hassembly, congrArg ServicePort.sending hport, congrArg ServicePort.waiting hport,
      congrArg ServicePort.commissioning hport, hopen, hclose, hnoted.relay.trans (loseMains_relay_state s.device),
      (congrArg Tamper.sources hnoted.tamper).trans hsources, keepsBut_noteDisplay (keepsBut_mono hframe (by decide)),
      fun hroom => ?_⟩
    rw [hnoted.log, hlog]
    exact take_first_record (n := 1) (e := addRecord .powerFail (setSupply .battery s.device)) hroom
      (addRecord_log_congr _ rfl rfl rfl) (lossCleared_grew s.device)

end Sys2Proof.Machine
end

section
/-! PROOFS. O40: SET_TIME at the two ports. -/

namespace Sys2Proof.Machine

/-! ### Seconds and meter times (R46, R49) -/

theorem timeSeconds_timeOfSeconds (n : Nat) : timeSeconds (timeOfSeconds n) = n := by
  simp only [timeSeconds, timeOfSeconds, Config.daySeconds]
  omega

theorem timeOfSeconds_timeSeconds {t : MeterTime} (h : t.second ≤ 86399) : timeOfSeconds (timeSeconds t) = t := by
  have hday : (t.day * 86400 + t.second) / 86400 = t.day := by omega
  have hsecond : (t.day * 86400 + t.second) % 86400 = t.second := by omega
  simp only [timeOfSeconds, timeSeconds, Config.daySeconds, hday, hsecond]

theorem timeSeconds_le {t : MeterTime} (hday : t.day ≤ 65535) (hsecond : t.second ≤ 86399) :
    timeSeconds t ≤ Config.lastDay * Config.daySeconds + Config.lastSecond := by
  simp only [timeSeconds, Config.lastDay, Config.daySeconds, Config.lastSecond]
  omega

/-- A time within the range is reached by its own step. -/
theorem movedTime_reaches {now t : MeterTime} {step : Int} (hday : t.day ≤ 65535) (hsecond : t.second ≤ 86399)
    (h : (timeSeconds now : Int) + step = timeSeconds t) : movedTime now step = t := by
  have hle := timeSeconds_le hday hsecond
  rw [movedTime, h, Int.toNat_natCast, Nat.min_eq_right hle, timeOfSeconds_timeSeconds hsecond]

/-- A step that does not pass the maximum moves by itself, and stops at the minimum. -/
theorem timeSeconds_movedTime {now : MeterTime} {step : Int}
    (h : (timeSeconds now : Int) + step ≤ (Config.lastDay * Config.daySeconds + Config.lastSecond : Nat)) :
    (timeSeconds (movedTime now step) : Int) = max 0 (timeSeconds now + step) := by
  rw [movedTime, timeSeconds_timeOfSeconds]
  omega

theorem clampedStep_within {step : Int} (hlow : -300 ≤ step) (hhigh : step ≤ 300) : clampedStep step = step := by
  simp only [clampedStep, Config.setClamp]
  omega

theorem clampedStep_above {step : Int} (h : 300 < step) : clampedStep step = 300 := by
  simp only [clampedStep, Config.setClamp]
  omega

theorem clampedStep_below {step : Int} (h : step < -300) : clampedStep step = -300 := by
  simp only [clampedStep, Config.setClamp]
  omega

theorem clampedStep_ne_iff (step : Int) : clampedStep step ≠ step ↔ step < -300 ∨ 300 < step := by
  simp only [clampedStep, Config.setClamp]
  omega

theorem hostClamped_eq (t : MeterTime) (d : Device) :
    hostClamped t d
      = (d.clock.isSet
          && decide ((timeSeconds t : Int) - timeSeconds d.clock.now < -300
            ∨ 300 < (timeSeconds t : Int) - timeSeconds d.clock.now)) := by
  unfold hostClamped
  congr 1
  rw [Bool.eq_iff_iff, bne_iff_ne, clampedStep_ne_iff, decide_eq_true_iff]

/-- The time that the meter host's set leads to (R49). -/
theorem hostNewTime_cases {t : MeterTime} {d : Device} (hday : t.day ≤ 65535) (hsecond : t.second ≤ 86399)
    (hnow : d.clock.now.day ≤ 65535) (hnowSecond : d.clock.now.second ≤ 86399) :
    let now : Int := timeSeconds d.clock.now
    let step : Int := timeSeconds t - now
    (d.clock.isSet = false → hostNewTime t d = t)
      ∧ (d.clock.isSet = true → -300 ≤ step → step ≤ 300 → hostNewTime t d = t)
      ∧ (d.clock.isSet = true → 300 < step → (timeSeconds (hostNewTime t d) : Int) = now + 300)
      ∧ (d.clock.isSet = true → step < -300 → (timeSeconds (hostNewTime t d) : Int) = max 0 (now - 300)) := by
  have hlast := timeSeconds_le hday hsecond
  have hnowLast := timeSeconds_le hnow hnowSecond
  refine ⟨fun hunset => ?_, fun hset hlow hhigh => ?_, fun hset habove => ?_, fun hset hbelow => ?_⟩
  · simp [hostNewTime, hunset]
  · rw [hostNewTime, if_pos hset, clampedStep_within hlow hhigh]
    exact movedTime_reaches hday hsecond (by omega)
  · rw [hostNewTime, if_pos hset, clampedStep_above habove, timeSeconds_movedTime (by omega)]
    omega
  · rw [hostNewTime, if_pos hset, clampedStep_below hbelow, timeSeconds_movedTime (by omega)]
    omega

/-! ### What a set leaves (R51) -/

/-- What every accepted set of meter time to `new` leaves of the clock, the demand window and CREDIT (R51). -/
structure TimeTaken (new : MeterTime) (before d : Device) : Prop where
  now : d.clock.now = new
  isSet : d.clock.isSet = true
  slots : d.load.slots = Vector.replicate 12 0
  credit : d.relay.reasons.credit = creditReasonOf d
  lastCharged : before.clock.isSet = false → d.clock.lastCharged = some new.day

theorem recomputeCreditReason_credit {d : Device} (hpart : d.power.part ≠ .initializing) :
    (recomputeCreditReason d).relay.reasons.credit = creditReasonOf (recomputeCreditReason d) := by
  have hk := recomputeCreditReason_keeps d
  rw [creditReasonOf_congr hk.power hk.account hk.settings hk.clock, recomputeCreditReason, if_neg hpart, setReason_reasons]
  rfl

theorem applySetTime_taken (new : MeterTime) {d : Device} (hpart : d.power.part ≠ .initializing) :
    TimeTaken new d (applySetTime new d) := by
  obtain ⟨hframe, hnow, hset, hslots, hlast, _⟩ := setProcessed_frame new d
  have hactivated := activationTest_keeps (setProcessed new d)
  have hk := keepsBut_comp (n := [.tariffs, .relay, .log, .host]) hactivated
    (recomputeCreditReason_keeps (activationTest (setProcessed new d)))
  rw [applySetTime_eq]
  refine ⟨by rw [hk.clock, hnow], by rw [hk.clock, hset], by rw [hk.load, hslots],
    recomputeCreditReason_credit (by rwa [hactivated.power, hframe.power]), fun hunset => ?_⟩
  rw [hk.clock]
  rcases hlast with h | ⟨hwas, _⟩
  · exact h
  · rw [hunset] at hwas; cases hwas

theorem TimeTaken.of_frame {new : MeterTime} {before d e : Device} (h : TimeTaken new before d)
    (hk : keepsBut [.host, .service] d e) : TimeTaken new before e := by
  refine ⟨by rw [hk.clock, h.now], by rw [hk.clock, h.isSet], by rw [hk.load, h.slots], ?_, fun hunset => ?_⟩
  · rw [hk.relay, h.credit, creditReasonOf_congr hk.power hk.account hk.settings hk.clock]
  · rw [hk.clock, h.lastCharged hunset]

/-! ### Settling O40 -/

/-- The part after an accepted set of the meter host (R49, R51). -/
def hostTimeSet (t : MeterTime) (d : Device) : Device :=
  if hostClamped t d then raiseNotice .timeClamped (applySetTime (hostNewTime t d) d) else applySetTime (hostNewTime t d) d

theorem hostTimeHandler_some {p : List Byte} {t : MeterTime} (ht : timeOf p = some t) (d : Device) :
    (t.second ≤ 86399 →
        hostTimeHandler p d
          = (hostTimeSet t d,
              accepted (meterTimeBytes (some (applySetTime (hostNewTime t d) d).clock.now) ++ yesNo (hostClamped t d))))
      ∧ (86399 < t.second → hostTimeHandler p d = (d, refusal .badValue)) := by
  refine ⟨fun h => ?_, fun h => ?_⟩
  · rw [hostTimeHandler, ht]
    exact if_neg (Nat.not_lt.mpr h)
  · rw [hostTimeHandler, ht]
    exact if_pos h

theorem serviceTimeHandler_some {p : List Byte} {t : MeterTime} (ht : timeOf p = some t) (d : Device) :
    (t.second ≤ 86399 → serviceTimeHandler p d = (applySetTime t d, accepted []))
      ∧ (86399 < t.second → serviceTimeHandler p d = (d, refusal .badValue)) := by
  refine ⟨fun h => ?_, fun h => ?_⟩
  · rw [serviceTimeHandler, ht]
    exact if_neg (Nat.not_lt.mpr h)
  · rw [serviceTimeHandler, ht]
    exact if_pos h

theorem hostTimeSet_taken {t : MeterTime} {d : Device} (hpart : d.power.part ≠ .initializing) :
    TimeTaken (hostNewTime t d) d (hostTimeSet t d)
      ∧ (hostClamped t d = true → hasNotice (hostTimeSet t d).host.notices .timeClamped = true) := by
  have htaken := applySetTime_taken (hostNewTime t d) hpart
  unfold hostTimeSet
  split
  · exact ⟨htaken.of_frame (keepsBut_mono (raiseNotice_keeps _ _) (by decide)), fun _ => hasNotice_raise _ _⟩
  · next h => exact ⟨htaken, fun hclamped => absurd hclamped h⟩

theorem hostReady_time {p : List Byte} {t : MeterTime} {d : Device} (ht : timeOf p = some t) (hrun : running d = true) :
    hostReady p d := by
  refine ⟨hrun, ?_⟩
  unfold timeOf at ht
  split at ht
  · next h => rw [h]; decide
  · cases ht

/-- Settles O40: both ports take the time by one operation, and the arithmetic of the clamp gives the time taken. -/
theorem setTimeClampsTheHostOnly : Obligations.SetTimeClampsTheHostOnly := by
  intro s p t ht
  dsimp only
  have hday := timeOf_day ht
  refine ⟨fun hrun hsecond hnowDay hnowSecond => ?_, fun hready hopen hsecond => ?_, fun hrun hsecond => ?_,
    fun hready hopen hsecond => ?_⟩
  · have hserved := (hostTimeHandler_some ht s.device).1 hsecond
    obtain ⟨htaken, hnotice⟩ := hostTimeSet_taken (t := t) (running_part hrun)
    obtain ⟨hunset, hwithin, habove, hbelow⟩ := hostNewTime_cases (d := s.device) hday hsecond hnowDay hnowSecond
    rw [(applySetTime_taken _ (running_part hrun)).now, hostClamped_eq] at hserved
    refine answers_host (h := hostTimeHandler p) rfl (hostReady_time ht hrun) hserved ?_
    have hanswered := fun a => keepsBut_trans (prepare_keeps a (hostTimeSet t s.device))
      (keepsBut_mono (noteDisplay_keeps s.device _) (by simp))
    obtain ⟨hnow, hset, hslots, hcredit, hlast⟩ := htaken.of_frame (keepsBut_mono (hanswered _) (by decide))
    refine ⟨⟨hset, hslots, hcredit, fun h => (hlast h).trans (by rw [hunset h])⟩, fun h => hnow.trans (hunset h),
      fun h hlow hhigh => hnow.trans (hwithin h hlow hhigh), fun h hstep => ⟨?_, ?_⟩, fun h hstep => ⟨?_, ?_⟩, ?_⟩
    · rw [hnow, habove h hstep]
    · rw [noteDisplay_host]
      exact hnotice (by rw [hostClamped_eq, h]; simp [hstep])
    · rw [hnow, hbelow h hstep]
    · rw [noteDisplay_host]
      exact hnotice (by rw [hostClamped_eq, h]; simp [hstep])
    · rw [hnow, noteDisplay_host]
      rfl
  · have hserved : handleServiceSetTime p (huntService s.device)
        = (applySetTime t (huntService s.device), some (accepted [])) := by
      rw [handleServiceSetTime, changing_open (d := huntService s.device) hopen, (serviceTimeHandler_some ht _).1 hsecond]
    have htaken := applySetTime_taken t (d := huntService s.device) (running_part hready.1)
    refine answers_serviceFrame (m := [.clock, .load, .account, .intake, .relay, .tariffs, .log, .host, .service]) rfl hready
      hserved (applySetTime_keeps _ _) (by decide) (by decide) (by decide) ?_
    rintro d rfl hreplied _
    obtain ⟨hnow, hset, hslots, hcredit, hlast⟩ :=
      htaken.of_frame (keepsBut_mono (serviceAnswered_keeps s.device 0x50 (accepted []) _) (by decide))
    exact ⟨⟨hset, hslots, hcredit, hlast⟩, hnow, hreplied⟩
  · exact answers_hostOnly rfl (hostReady_time ht hrun) ((hostTimeHandler_some ht _).2 hsecond)
  · refine answers_serviceOnly rfl hready ?_
    rw [handleServiceSetTime, changing_open (d := huntService s.device) hopen, (serviceTimeHandler_some ht _).2 hsecond]

end Sys2Proof.Machine
end

section
/-! PROOFS. O57: RESET, the changes of MAINS_GOOD in INITIALIZING, and the loss and return of all supply. -/

namespace Sys2Proof.Machine

/-- Off mains or in INITIALIZING the link does not run, and no display is noted. -/
theorem noteDisplay_of_stopped {old new : Device} (h : running old = false ∨ running new = false) :
    noteDisplay old new = new := by
  unfold noteDisplay
  rcases h with h | h <;> simp [h]

theorem running_of_initializing {d : Device} (h : d.power.part = .initializing) : running d = false := by
  simp [running, h]

/-- An event before or after which the part is not running. -/
theorem answers_stopped {c : Instr} {s : State} {f : Device → Device} {e : Device} {after : Device → Prop}
    (hexec : exec c s = takeEvent s f) (hf : f s.device = e) (hstopped : running s.device = false ∨ running e = false)
    (hafter : after e) : answers c s after :=
  answers_of_takeEvent hexec (by rw [hf, noteDisplay_of_stopped hstopped]; exact hafter)

/-! ### The asserted RESET (R186) -/

theorem enterInitializing_keeps (d : Device) :
    keepsBut [.power, .intake, .codes, .keypad, .link, .relay, .load, .tamper, .log, .host, .service] d
      (enterInitializing d) := by
  intro b hb
  cases b
  case residue | account | settings | clock | tariffs | oneTime => rfl
  all_goals exact absurd (by decide) hb

/-- The part as RESET finds it: outside INITIALIZING its test ended and its codes aborted (R186). -/
def resetPrepared (d : Device) : Device :=
  let asserted := d.setPower { d.power with resetAsserted := true }
  if d.power.part = .initializing then asserted else abortCodes (endTest .reset asserted)

theorem assertReset_alive {d : Device} (h : alive d = true) : assertReset d = enterInitializing (resetPrepared d) := by
  unfold assertReset resetPrepared
  simp only [h, Bool.not_true, Bool.false_eq_true, if_false]
  split <;> rfl

/-- Aborted codes count no refusal against the keypad, and lock nothing out (R85, R109). -/
theorem abortCodes_lockout (d : Device) :
    (abortCodes d).keypad.lockout = d.keypad.lockout ∧ (abortCodes d).keypad.refusals = d.keypad.refusals := by
  have hreported : ∀ (c : QueuedCode) (e : Device), (reportOutcome c .aborted none e).keypad.lockout = e.keypad.lockout
      ∧ (reportOutcome c .aborted none e).keypad.refusals = e.keypad.refusals := by
    intro c e
    unfold reportOutcome
    cases c.source <;> exact ⟨rfl, rfl⟩
  have hfold : ∀ (l : List QueuedCode) (e : Device),
      (l.foldl (fun now c => reportOutcome c .aborted none now) e).keypad.lockout = e.keypad.lockout
        ∧ (l.foldl (fun now c => reportOutcome c .aborted none now) e).keypad.refusals = e.keypad.refusals := by
    intro l
    induction l with
    | nil => exact fun _ => ⟨rfl, rfl⟩
    | cons c l ih =>
      intro e
      obtain ⟨hlockout, hrefusals⟩ := ih (reportOutcome c .aborted none e)
      exact ⟨hlockout.trans (hreported c e).1, hrefusals.trans (hreported c e).2⟩
  exact hfold _ _

/-- What the preparation leaves of the power, the codes and the keypad. -/
theorem resetPrepared_frame (d : Device) :
    keepsBut [.power, .intake, .codes, .keypad, .service, .log, .host] d (resetPrepared d)
      ∧ (resetPrepared d).power = { d.power with resetAsserted := true }
      ∧ { (resetPrepared d).codes with queue := [], inCheck := none, nextTicket := 0 }
        = { d.codes with queue := [], inCheck := none, nextTicket := 0 }
      ∧ (resetPrepared d).keypad.lockout = d.keypad.lockout ∧ (resetPrepared d).keypad.refusals = d.keypad.refusals := by
  have hasserted := setPower_keeps d { d.power with resetAsserted := true }
  have hended := endTest_keeps .reset (d.setPower { d.power with resetAsserted := true })
  have haborted := abortCodes_keeps (endTest .reset (d.setPower { d.power with resetAsserted := true }))
  unfold resetPrepared
  dsimp only
  split
  · exact ⟨keepsBut_mono hasserted (by decide), rfl, rfl, rfl, rfl⟩
  · obtain ⟨hlockout, hrefusals⟩ := abortCodes_lockout (endTest .reset (d.setPower { d.power with resetAsserted := true }))
    refine ⟨keepsBut_comp (keepsBut_comp (n := [.power, .intake, .log, .host]) hasserted hended) haborted,
      haborted.power.trans hended.power, ?_, ?_, ?_⟩
    · rw [abortCodes_codes, hended.codes]
      rfl
    · rw [hlockout, hended.keypad]
      rfl
    · rw [hrefusals, hended.keypad]
      rfl

/-- The release of RESET in INITIALIZING starts the initialization time on mains (R186). -/
theorem releaseReset_initializing {d : Device} (hinit : d.power.part = .initializing) :
    releaseReset d
      = d.setPower { d.power with
          resetAsserted := false, initTiming := d.power.initTiming || d.power.supply == .mains } := by
  unfold releaseReset
  dsimp only
  by_cases hmains : d.power.supply = .mains
  · rw [if_pos ⟨hinit, hmains⟩, beq_iff_eq.mpr hmains, Bool.or_true]
    rfl
  · rw [if_neg (fun h => hmains h.2), beq_eq_false_iff_ne.mpr hmains, Bool.or_false]

/-! ### Settling O57 -/

/-- What asserting RESET leaves (R186): the volatile items at start-up values over what the preparation leaves. -/
theorem answers_resetAssert (s : State) (halive : alive s.device = true) (hreset : s.device.power.resetAsserted = false) :
    answers .resetAssert s fun d =>
      d.power = { s.device.power with part := .initializing, resetAsserted := true, initTiming := false }
        ∧ d.relay = { s.device.relay with state := .unheld } ∧ d.intake.testActive = false
        ∧ d.codes = { s.device.codes with queue := [], inCheck := none, nextTicket := 0 }
        ∧ d.keypad.buffer = [] ∧ d.keypad.outcome = none ∧ d.keypad.lockout = s.device.keypad.lockout
        ∧ d.keypad.refusals = s.device.keypad.refusals
        ∧ d.link.parityErrors = 0 ∧ d.link.framingErrors = 0 ∧ d.link.badFrames = 0
        ∧ d.link.presence = .waitingFirst ∧ d.link.rate = s.device.link.rate
        ∧ d.load = { s.device.load with slots := Vector.replicate 12 0 }
        ∧ d.tamper.sources = s.device.tamper.sources ∧ d.tamper.table = s.device.tamper.table
        ∧ d.log.mark = none ∧ d.host.response = .empty ∧ d.host.lastResult = none ∧ d.host.badFrames = 0
        ∧ d.service = { assembly := .hunting, sending := none, waiting := none, lastResult := none, commissioning := none }
        ∧ keepsBut [.power, .intake, .codes, .keypad, .link, .relay, .load, .tamper, .log, .host, .service] s.device d := by
  obtain ⟨hframe, hpower, hcodes, hlockout, hrefusals⟩ := resetPrepared_frame s.device
  have hf : (if s.device.power.resetAsserted = true then s.device else assertReset s.device)
      = enterInitializing (resetPrepared s.device) := by
    rw [if_neg (by simp [hreset]), assertReset_alive halive]
  refine answers_stopped (f := fun d => if d.power.resetAsserted then d else assertReset d)
    (e := enterInitializing (resetPrepared s.device)) rfl hf (.inr (running_of_initializing rfl)) ?_
  refine ⟨?_, ?_, rfl, hcodes, rfl, rfl, hlockout, hrefusals, rfl, rfl, rfl, rfl, hframe.rate, ?_, ?_, ?_, rfl, rfl, rfl,
    rfl, rfl, keepsBut_comp hframe (enterInitializing_keeps _)⟩
  · rw [enterInitializing_power, hpower]
  · exact congrArg (fun r : Relay => { r with state := .unheld }) hframe.relay
  · exact congrArg (fun l : Load => { l with slots := Vector.replicate 12 0 }) hframe.load
  · show (resetPrepared s.device).tamper.sources = _
    rw [hframe.tamper]
  · show (resetPrepared s.device).tamper.table = _
    rw [hframe.tamper]

/-- Settles O57: the assertion and release of RESET, MAINS_GOOD in INITIALIZING, and the supply's fall and rise. -/
theorem resetAndSupplyLossEnterInitializing : Obligations.ResetAndSupplyLossEnterInitializing := by
  refine ⟨fun s => ⟨answers_resetAssert s, fun hreset hinit => ?_, fun hinit hbattery => ?_, fun hinit hmains => ?_⟩,
    fun s => ⟨fun halive => ?_, fun hdead good reset => ?_⟩⟩
  · refine answers_stopped (e := releaseReset s.device) rfl (if_pos hreset) (.inl (running_of_initializing hinit)) ?_
    exact releaseReset_initializing hinit
  · refine answers_stopped (f := fun d => _) (e := changeInitMains .high s.device) rfl (if_pos ⟨hinit, ?_, ?_⟩)
      (.inl (running_of_initializing hinit)) rfl
    · simp [alive, hbattery]
    · rw [hbattery]; decide
  · refine answers_stopped (f := fun d => _) (e := changeInitMains .low s.device) rfl (if_pos ⟨hinit, ?_, ?_⟩)
      (.inl (running_of_initializing hinit)) rfl
    · simp [alive, hmains]
    · rw [hmains]; decide
  · exact answers_stopped (e := loseSupply s.device) rfl (if_pos halive)
      (.inr (running_of_initializing rfl))
      ⟨rfl, rfl, rfl, rfl, rfl, rfl, rfl, rfl, rfl⟩
  · have hoff : running s.device = false := by
      have hnone : s.device.power.supply = .none := by simpa [alive] using hdead
      simp [running, hnone]
    exact answers_stopped (f := fun d => if alive d then d else gainSupply good reset d)
      (e := gainSupply good reset s.device) rfl (if_neg (Bool.eq_false_iff.mp hdead)) (.inl hoff)
      (by cases good <;> rfl)

end Sys2Proof.Machine
end

section
/-! PROOFS. What the end of INITIALIZING leaves of the relay's holds, the sources and the log's cursors. -/

namespace Sys2Proof.Machine

/-! ### The relay before its resolution (R187, steps 4 to 6) -/

/-- The fault record and the reasons that have no part in start-up stand, and while no state is held none is entered and
the last confirmed position stands. -/
structure HoldsKept (d e : Device) : Prop where
  fault : e.relay.fault = d.relay.fault
  load : e.relay.reasons.load = d.relay.reasons.load
  remote : e.relay.reasons.remote = d.relay.reasons.remote
  service : e.relay.reasons.service = d.relay.reasons.service
  lastConfirmed : e.relay.lastConfirmed = d.relay.lastConfirmed
  unheld : d.relay.state = .unheld → e.relay.state = .unheld

theorem HoldsKept.refl (d : Device) : HoldsKept d d := ⟨rfl, rfl, rfl, rfl, rfl, id⟩

theorem HoldsKept.trans {d e f : Device} (h : HoldsKept d e) (k : HoldsKept e f) : HoldsKept d f :=
  ⟨k.fault.trans h.fault, k.load.trans h.load, k.remote.trans h.remote, k.service.trans h.service,
    k.lastConfirmed.trans h.lastConfirmed, fun hd => k.unheld (h.unheld hd)⟩

theorem HoldsKept.of_relay {d e : Device} (h : e.relay = d.relay) : HoldsKept d e := by
  constructor <;> rw [h]
  exact id

theorem HoldsKept.of_frame {l : List Block} {d e : Device} (h : keepsBut l d e) (hl : .relay ∉ l := by decide) :
    HoldsKept d e := .of_relay (h.relay hl)

/-- A hand-off of CREDIT, ACCOUNT or TAMPER is none of LOAD, REMOTE or SERVICE (R111). -/
theorem setReasons_holdsKept {r : Reasons} {d : Device} (hload : r.load = d.relay.reasons.load)
    (hremote : r.remote = d.relay.reasons.remote) (hservice : r.service = d.relay.reasons.service) :
    HoldsKept d (setReasons r d) := by
  obtain ⟨hlast, hfault⟩ := setReasons_lastConfirmed r d
  have hreasons := setReasons_reasons r d
  refine ⟨hfault, ?_, ?_, ?_, hlast, setReasons_unheld⟩
  · rw [hreasons, hload]
  · rw [hreasons, hremote]
  · rw [hreasons, hservice]

theorem HoldsKept.noticed {d e : Device} (h : HoldsKept d e) (n : Notice) : HoldsKept d (raiseNotice n e) :=
  h.trans (.of_relay rfl)

theorem evaluateTamper_holdsKept (d : Device) : HoldsKept d (evaluateTamper d) := setReasons_holdsKept rfl rfl rfl

theorem handStart_holdsKept (d : Device) : HoldsKept d (handStart d) := by
  have hset : HoldsKept d
      (setReasons { d.relay.reasons with credit := creditReasonOf d, account := accountReasonOf d } d) :=
    setReasons_holdsKept rfl rfl rfl
  have hhanded : HoldsKept d (handAccountReasons d) := by
    unfold handAccountReasons
    dsimp only
    split
    · exact hset
    · exact hset.noticed _
  have hevaluated := hhanded.trans (evaluateTamper_holdsKept _)
  unfold handStart
  dsimp only
  split
  · exact hevaluated.noticed _
  · exact hevaluated

theorem detect_holdsKept (x : Source) (detail : Option Byte) (d : Device) : HoldsKept d (detect x detail d) := by
  unfold detect
  dsimp only
  split
  · exact (HoldsKept.of_frame (setSource_keeps _ _ d)).trans (.of_frame (addRecord_keeps _ _))
  split
  · exact .of_frame (setSource_keeps _ _ d)
  · rw [latchSource_eq]
    refine HoldsKept.trans (.of_relay ?_) (evaluateTamper_holdsKept _)
    rw [(raiseNotice_keeps _ _).relay, (setSource_keeps _ _ _).relay, addRecord_relay]

theorem recomputeCredit_holdsKept (d : Device) : HoldsKept d (recomputeCredit d) := by
  refine (HoldsKept.of_frame (recomputeCreditState_keeps d)).trans ?_
  unfold recomputeCredit recomputeCreditReason
  split
  · exact .refl _
  · exact setReasons_holdsKept rfl rfl rfl

theorem debit_holdsKept (k : Nat) (w : DebitReason) (d : Device) : HoldsKept d (debit k w d) := by
  unfold debit
  split
  · exact .refl d
  · have hdebited := keepsBut_comp (n := [.account, .log, .host]) (setAccount_keeps d (debitedAccount k d.account))
      (recordDiscard_keeps (debitExcess k d.account) w _)
    exact (HoldsKept.of_frame hdebited).trans (recomputeCredit_holdsKept _)

theorem debits_holdsKept (n k : Nat) (w : DebitReason) (d : Device) : HoldsKept d ((debit k w)^[n] d) := by
  induction n with
  | zero => exact .refl d
  | succ n ih =>
    rw [Function.iterate_succ_apply']
    exact ih.trans (debit_holdsKept k w _)

theorem dayProcessing_holdsKept (d : Device) : HoldsKept d (dayProcessing d) := by
  unfold dayProcessing
  split
  case h_2 => exact .refl d
  case h_1 last _ _ =>
    dsimp only
    split
    · exact .refl d
    have hcharged := debits_holdsKept (min (d.clock.now.day - last) Config.chargedDays) d.tariffs.active.standing .standing d
    refine hcharged.trans (.of_relay ?_)
    rw [Device.setClock_relay, Device.setIntake_relay]
    split
    · exact addRecord_relay _ _
    · rfl

theorem processStart_holdsKept (d : Device) : HoldsKept d (processStart d) := by
  unfold processStart
  split
  · exact (dayProcessing_holdsKept d).trans (.of_frame (activationTest_keeps _))
  · exact .refl d

/-! ### The deferred detections (R140, R187 step 4) -/

/-- The deferred detections are taken one after another. -/
def detectAll (l : List Source) (d : Device) : Device := l.foldl (fun now s => detect s none now) d

theorem detectAll_cons (s : Source) (l : List Source) (d : Device) :
    detectAll (s :: l) d = detectAll l (detect s none d) := rfl

theorem exempted_congr {d e : Device} (h : e.codes = d.codes) (x : Source) : exempted x e = exempted x d := by
  unfold exempted
  rw [h]

/-- A detection moves nothing of the Tamper Monitor but its sources (R146). -/
theorem detect_onlySources (x : Source) (detail : Option Byte) (d : Device) :
    (detect x detail d).tamper = { d.tamper with sources := (detect x detail d).tamper.sources } := by
  unfold detect
  dsimp only
  split
  · rw [(addRecord_keeps _ _).tamper]
    rfl
  split
  · rfl
  · rw [latchSource_eq, evaluateTamper_tamper]
    rw [(raiseNotice_keeps _ _).tamper, setSource, Device.setTamper_tamper, (addRecord_keeps _ d).tamper]

theorem detectAll_onlySources (l : List Source) (d : Device) :
    (detectAll l d).tamper = { d.tamper with sources := (detectAll l d).tamper.sources } := by
  induction l generalizing d with
  | nil => rfl
  | cons s l ih =>
    rw [detectAll_cons, ih, detect_onlySources]

theorem detectAll_holdsKept (l : List Source) (d : Device) : HoldsKept d (detectAll l d) := by
  induction l generalizing d with
  | nil => exact .refl d
  | cons s l ih => exact (detect_holdsKept s none d).trans (ih _)

/-- Each source named takes one detection, and every other source's entry stands (R146). -/
theorem detectAll_entry {l : List Source} (hnodup : l.Nodup) (d : Device) (x : Source) :
    (x ∉ l → sourceEntry (detectAll l d) x = sourceEntry d x)
      ∧ (x ∈ l → (sourceEntry (detectAll l d) x).count = raiseCount (sourceEntry d x).count
        ∧ (sourceEntry (detectAll l d) x).latched = ((sourceEntry d x).latched || !exempted x d)) := by
  induction l generalizing d with
  | nil => exact ⟨fun _ => rfl, fun h => absurd h (List.not_mem_nil)⟩
  | cons s l ih =>
    obtain ⟨hs, hl⟩ := List.nodup_cons.mp hnodup
    obtain ⟨hout, hin⟩ := ih hl (detect s none d)
    rw [detectAll_cons]
    rw [sourceEntry_detect, exempted_congr (detect_keeps s none d).codes] at hin
    rw [sourceEntry_detect] at hout
    by_cases hx : x = s
    · subst hx
      refine ⟨fun h => absurd List.mem_cons_self h, fun _ => ?_⟩
      rw [hout hs, if_pos rfl]
      exact ⟨detectedEntry_count x d, detectedEntry_latched_eq x d⟩
    · rw [if_neg hx] at hin hout
      exact ⟨fun h => hout fun hmem => h (List.mem_cons_of_mem s hmem),
        fun h => hin ((List.mem_cons.mp h).resolve_left hx)⟩

theorem deferredSources_nodup (x : Deferred) : (deferredSources x).Nodup := by
  obtain ⟨case, cover, magnet⟩ := x
  cases case <;> cases cover <;> cases magnet <;> decide

/-! ### The lines at start-up (R187, step 4) -/

/-- Every deferred detection is forgotten. -/
def clearDeferred (d : Device) : Device := d.setTamper { d.tamper with deferred := noDeferred }

theorem rearmStart_intact (first : List Source) (d : Device) :
    rearmStart true first d
      = detectAll (takeFirst first (deferredSources d.tamper.deferred)) (rearmLines mainsFunction (clearDeferred d)) := rfl

theorem rearmStart_lost (first : List Source) (d : Device) :
    rearmStart false first d = rearmLines (fun _ => true) (clearDeferred d) := rfl

theorem rearmStart_intact_tamper (first : List Source) (d : Device) :
    (rearmStart true first d).tamper
      = { (rearmLines mainsFunction d).tamper with
          sources := (rearmStart true first d).tamper.sources, deferred := noDeferred } := by
  rw [rearmStart_intact, detectAll_onlySources]
  rfl

theorem rearmStart_holdsKept (intact : Bool) (first : List Source) (d : Device) : HoldsKept d (rearmStart intact first d) := by
  cases intact
  · rw [rearmStart_lost]
    exact .of_relay rfl
  · rw [rearmStart_intact]
    exact HoldsKept.trans (e := rearmLines mainsFunction (clearDeferred d)) (.of_relay rfl) (detectAll_holdsKept _ _)

theorem rearmStart_intact_entry (first : List Source) (d : Device) (x : Source) :
    (x ∉ deferredSources d.tamper.deferred → sourceEntry (rearmStart true first d) x = sourceEntry d x)
      ∧ (x ∈ deferredSources d.tamper.deferred →
        (sourceEntry (rearmStart true first d) x).count = raiseCount (sourceEntry d x).count
          ∧ (sourceEntry (rearmStart true first d) x).latched = ((sourceEntry d x).latched || !exempted x d)) := by
  have hperm := takeFirst_perm first (deferredSources d.tamper.deferred)
  obtain ⟨hout, hin⟩ := detectAll_entry (hperm.nodup_iff.mpr (deferredSources_nodup _))
    (rearmLines mainsFunction (clearDeferred d)) x
  rw [hperm.mem_iff] at hout hin
  exact ⟨hout, hin⟩

/-! ### The log's cursors (R157) -/

/-- The two cursors and the mark stand. -/
structure CursorsKept (d e : Device) : Prop where
  hostCursor : e.log.hostCursor = d.log.hostCursor
  serviceCursor : e.log.serviceCursor = d.log.serviceCursor
  mark : e.log.mark = d.log.mark

theorem CursorsKept.of_log {d e : Device} (h : e.log = d.log) : CursorsKept d e := by
  constructor <;> rw [h]

theorem CursorsKept.of_frame {l : List Block} {d e : Device} (h : keepsBut l d e) (hl : .log ∉ l := by decide) :
    CursorsKept d e := .of_log (h.log hl)

theorem CursorsKept.trans {d e f : Device} (h : CursorsKept d e) (k : CursorsKept e f) : CursorsKept d f :=
  ⟨k.hostCursor.trans h.hostCursor, k.serviceCursor.trans h.serviceCursor, k.mark.trans h.mark⟩

/-- The cursors are followed from where the log was last the same. -/
theorem CursorsKept.after_same {d e f : Device} (h : CursorsKept e f) (hd : e.log = d.log) : CursorsKept d f :=
  (CursorsKept.of_log hd).trans h

theorem CursorsKept.ite {c : Prop} {_ : Decidable c} {d e f : Device} (he : CursorsKept d e) (hf : CursorsKept d f) :
    CursorsKept d (if c then e else f) := by
  split
  · exact he
  · exact hf

/-- A record moves no cursor (R155). -/
theorem addRecord_cursorsKept (x : LogData) (d : Device) : CursorsKept d (addRecord x d) := by
  rcases Nat.lt_or_ge d.log.next Config.numberEnd with hnext | hend
  · constructor <;> rw [addRecord_log hnext]
  · rw [addRecord_exhausted hend]
    exact .of_log rfl

theorem enterRelay_cursorsKept (st : RelayState) (d : Device) : CursorsKept d (enterRelay st d) := by
  have hentered : CursorsKept d (if st = .closed then zeroOpenEnergy (d.setRelay { d.relay with state := st })
      else d.setRelay { d.relay with state := st }) := .ite (.of_log rfl) (.of_log rfl)
  exact (hentered.trans (addRecord_cursorsKept _ _)).trans (.of_frame (raiseNotice_keeps _ _))

theorem reactToReasons_cursorsKept (d : Device) : CursorsKept d (reactToReasons d) := by
  unfold reactToReasons
  split
  · split
    · exact .ite (.of_log rfl) (.of_frame (startAttempt_keeps _ _ _))
    · exact .ite (enterRelay_cursorsKept _ _) (.of_log rfl)
    · exact .ite (.of_log rfl) (enterRelay_cursorsKept _ _)
    · exact .of_log rfl
  · exact .of_log rfl

theorem setReasons_cursorsKept (r : Reasons) (d : Device) : CursorsKept d (setReasons r d) :=
  .ite (.of_log rfl) (.after_same (reactToReasons_cursorsKept (d.setRelay { d.relay with reasons := r })) rfl)

theorem handStart_cursorsKept (d : Device) : CursorsKept d (handStart d) := by
  have hhanded : CursorsKept d (handAccountReasons d) :=
    .ite (setReasons_cursorsKept _ d) ((setReasons_cursorsKept _ d).trans (.of_frame (raiseNotice_keeps _ _)))
  have hevaluated : CursorsKept d (evaluateTamper (handAccountReasons d)) := hhanded.trans (setReasons_cursorsKept _ _)
  exact .ite (hevaluated.trans (.of_frame (raiseNotice_keeps _ _))) hevaluated

theorem settle_cursorsKept (p : Position) (d : Device) : CursorsKept d (settle p d) :=
  .after_same ((enterRelay_cursorsKept _ (d.setRelay { d.relay with lastConfirmed := p })).trans
    (reactToReasons_cursorsKept _)) rfl

theorem resolveRelay_cursorsKept (d : Device) : CursorsKept d (resolveRelay d) := by
  unfold resolveRelay
  split
  · exact .ite (settle_cursorsKept _ _) (.of_log rfl)
  · exact settle_cursorsKept _ _

theorem handStart_grew (d : Device) : LogGrew 2 d (handStart d) :=
  have hevaluated : LogGrew 2 d (evaluateTamper (handAccountReasons d)) :=
    (handAccountReasons_grew d).trans (evaluateTamper_grew _)
  .ite (hevaluated.noticed _) hevaluated

theorem settle_grew (p : Position) (d : Device) : LogGrew 2 d (settle p d) :=
  .after_same ((enterRelay_grew _ (d.setRelay { d.relay with lastConfirmed := p })).trans (reactToReasons_grew _)) rfl

theorem resolveRelay_grew (d : Device) : LogGrew 2 d (resolveRelay d) := by
  unfold resolveRelay
  split
  · exact .ite (settle_grew _ _) (.same rfl)
  · exact settle_grew _ _

end Sys2Proof.Machine
end

section
/-! PROOFS. O58: the end of INITIALIZING. -/

namespace Sys2Proof.Machine

/-! ### Whatever the check found (R187) -/

/-- The part with its reasons handed on (R187, steps 1 to 5). -/
def handedDevice (first : List Source) (d : Device) : Device :=
  handStart (rearmStart d.power.storeIntact first (chosenDevice d))

theorem startedDevice_eq (first : List Source) (d : Device) : startedDevice first d = processStart (handedDevice first d) := rfl

theorem endInitializing_laws_handed (strap : Level) (first : List Source) (d : Device) :
    keepsLaws [.host, .relay] (handedDevice first d) (endInitializing strap first d) := by
  rw [endInitializing_eq]
  exact (((processStart_laws _).mono (L := [.host, .relay])).step (resolveRelay_laws_aside _)).step
    (startPorts_laws strap _) |>.step (setPower_running_laws rfl rfl)

theorem endInitializing_reasons (strap : Level) (first : List Source) (d : Device) :
    ReasonsSound (endInitializing strap first d) := by
  rw [reasonsSound_iff]
  exact endInitializing_laws_handed strap first d .reasons (by decide) False (handStart_current False _)

/-- {RESTARTED} stays pending through the end of INITIALIZING (R187, step 1). -/
theorem endInitializing_restarted {d : Device} (hinit : d.power.part = .initializing) (strap : Level) (first : List Source) :
    hasNotice (endInitializing strap first d).host.notices .restarted = true := by
  have hverified : Law.notices.kept (noteRestarted d) (chosenDevice d) :=
    verifyStore_laws (d := noteRestarted d) hinit .notices (by decide)
  have hhanded : Law.notices.kept (chosenDevice d) (handedDevice first d) :=
    Law.kept_trans (rearmStart_laws _ first _ .notices (by simp)) (handStart_laws _ .notices (by decide))
  have hended := endInitializing_laws_handed strap first d .notices (by decide)
  have hnoted : hasNotice (noticeSet .restarted) .restarted = true := by decide
  exact hended _ (hhanded _ (hverified _ hnoted))

/-- The blocks that no step of the end of INITIALIZING moves once the part state is chosen, and the fields it sets. -/
theorem endInitializing_blocks (strap : Level) (first : List Source) (d : Device) :
    keepsBut [.tamper, .account, .clock, .intake, .relay, .tariffs, .log, .host, .power, .link, .service] (chosenDevice d)
        (endInitializing strap first d)
      ∧ (endInitializing strap first d).tamper = (rearmStart d.power.storeIntact first (chosenDevice d)).tamper
      ∧ (endInitializing strap first d).intake
        = { (resolveRelay (startedDevice first d)).intake with filters := Vector.replicate 3 .waiting }
      ∧ (endInitializing strap first d).link.rate = (chosenDevice d).link.rate
      ∧ (endInitializing strap first d).host.address = strapAddress strap := by
  obtain ⟨hframe, _, _⟩ := endInitializing_frame strap first d
  have hstarted := startedDevice_frame first d
  refine ⟨keepsBut_comp hstarted hframe, ?_, rfl, ?_, rfl⟩
  · rw [hframe.tamper, startedDevice_eq, (processStart_keeps _).tamper]
    exact (handStart_keeps _).tamper
  · exact (resolveRelay_keeps (startedDevice first d)).rate.trans hstarted.rate

/-- What the steps before the resolution leave of the relay (R187, steps 4 to 6). -/
theorem startedDevice_holdsKept (first : List Source) (d : Device) : HoldsKept (chosenDevice d) (startedDevice first d) :=
  ((rearmStart_holdsKept _ first _).trans (handStart_holdsKept _)).trans (processStart_holdsKept _)

theorem startedDevice_running {d : Device} (hmains : d.power.supply = .mains) (first : List Source) :
    running (startedDevice first d) = true := by
  simp [running, startedDevice_power, hmains, chosenPart_ne]

/-- A resolution moves the state and the last confirmed position alone (R127). -/
theorem resolveRelay_holds {d : Device} (hrun : running d = true) :
    (resolveRelay d).relay.reasons = d.relay.reasons ∧ (resolveRelay d).relay.fault = d.relay.fault := by
  refine ⟨?_, (resolveRelay_resolved hrun).fault⟩
  unfold resolveRelay
  split
  · split
    · rw [settle_relay hrun]
    · rfl
  · rw [settle_relay hrun]

/-- The fault record and the reasons LOAD, REMOTE and SERVICE are those of the chosen part. -/
theorem endInitializing_holds {d : Device} (hmains : d.power.supply = .mains) (strap : Level) (first : List Source) :
    (endInitializing strap first d).relay.fault = (chosenDevice d).relay.fault
      ∧ (endInitializing strap first d).relay.reasons.load = (chosenDevice d).relay.reasons.load
      ∧ (endInitializing strap first d).relay.reasons.remote = (chosenDevice d).relay.reasons.remote
      ∧ (endInitializing strap first d).relay.reasons.service = (chosenDevice d).relay.reasons.service := by
  obtain ⟨_, hrelay, _⟩ := endInitializing_frame strap first d
  obtain ⟨hreasons, hfault⟩ := resolveRelay_holds (startedDevice_running hmains first)
  have hholds := startedDevice_holdsKept first d
  rw [hrelay, hreasons, hfault]
  exact ⟨hholds.fault, hholds.load, hholds.remote, hholds.service⟩

/-- A relay of which no state is held resolves (R127). -/
theorem endInitializing_resolves {d : Device} (hmains : d.power.supply = .mains) (strap : Level) (first : List Source)
    (hunheld : (chosenDevice d).relay.state = .unheld) :
    (endInitializing strap first d).relay.lastConfirmed
        = (auxPosition (endInitializing strap first d)).getD (chosenDevice d).relay.lastConfirmed
      ∧ (endInitializing strap first d).relay.state
        = settledOn (endInitializing strap first d).relay.lastConfirmed (endInitializing strap first d) := by
  have hholds := startedDevice_holdsKept first d
  have hended : keepsBut [.power, .intake, .link, .service, .host] (resolveRelay (startedDevice first d))
      (endInitializing strap first d) := by
    rw [endInitializing_eq]
    exact keepsBut_comp (startPorts_keeps strap _) (setInitTiming_keeps false _)
  have hresolved := (resolveRelay_resolved (startedDevice_running hmains first)).frame (.refl _) hended
  rw [← hholds.lastConfirmed]
  exact hresolved.free fun p hp => by rw [hholds.unheld hunheld] at hp; cases hp

/-! ### An intact store (R187) -/

/-- With an intact store the part chosen differs in its power and its notices (R187, steps 1 to 3). -/
theorem chosenDevice_intact {d : Device} (h : d.power.storeIntact = true) : keepsBut [.power, .host] d (chosenDevice d) := by
  have hverified : verifyStore (noteRestarted d) = noteRestarted d := if_pos h
  unfold chosenDevice
  rw [hverified]
  exact keepsBut_comp (setHost_keeps d _) (setPart_keeps _ _)

/-! ### A store that fails its check (R188) -/

/-- The part after a retained loss, its record written (R187, step 2). -/
def lostDevice (d : Device) : Device := addRecord .accountLost (retainedLoss (noteRestarted d))

theorem chosenDevice_lost {d : Device} (h : d.power.storeIntact = false) :
    keepsBut [.power] (lostDevice d) (chosenDevice d) := by
  have hverified : verifyStore (noteRestarted d)
      = (lostDevice d).setPower { (lostDevice d).power with storeIntact := true } :=
    if_neg (Bool.eq_false_iff.mp h)
  unfold chosenDevice
  rw [hverified]
  exact keepsBut_comp (setPower_keeps _ _) (setPart_keeps _ _)

theorem lostDevice_keeps (d : Device) : keepsBut [.log, .host] (retainedLoss (noteRestarted d)) (lostDevice d) :=
  addRecord_keeps _ _

/-- The first record after a retained loss, and the cursors (R188, Table 10-4). -/
theorem lostDevice_log (d : Device) :
    (lostDevice d).log.records = [{ number := 0, time := none, data := .accountLost }]
      ∧ (lostDevice d).log.hostCursor = 0 ∧ (lostDevice d).log.serviceCursor = 0 ∧ (lostDevice d).log.mark = none := by
  have hnumbers : 0 < Config.numberEnd := by decide
  have hlog : (lostDevice d).log = _ := addRecord_log (d := retainedLoss (noteRestarted d)) hnumbers .accountLost
  rw [hlog]
  exact ⟨rfl, rfl, rfl, rfl⟩

/-- After a failed check meter time is UNSET, and nothing is processed (R187, step 6). -/
theorem startedDevice_lost {d : Device} (h : d.power.storeIntact = false) (first : List Source) :
    startedDevice first d = handedDevice first d := by
  have hclock : (handedDevice first d).clock = lossClock :=
    (handStart_keeps _).clock.trans ((rearmStart_keeps _ first _).clock.trans
      ((chosenDevice_lost h).clock.trans (lostDevice_keeps d).clock))
  rw [startedDevice_eq, processStart, hclock]
  exact if_neg (by decide)

/-- The blocks after a failed check (R188, Table 10-4). -/
theorem endInitializing_lost {d : Device} (h : d.power.storeIntact = false) (strap : Level) (first : List Source) :
    keepsBut [.tamper, .intake, .relay, .log, .host, .power, .link, .service] (retainedLoss (noteRestarted d))
        (endInitializing strap first d)
      ∧ (endInitializing strap first d).tamper
        = (rearmLines (fun _ => true) (clearDeferred (retainedLoss (noteRestarted d)))).tamper
      ∧ LogGrew 4 (lostDevice d) (endInitializing strap first d)
      ∧ CursorsKept (lostDevice d) (endInitializing strap first d) := by
  obtain ⟨_, htamper, _, _, _⟩ := endInitializing_blocks strap first d
  obtain ⟨hframe, _, _⟩ := endInitializing_frame strap first d
  have hlost := keepsBut_comp (n := [.power, .log, .host]) (lostDevice_keeps d) (chosenDevice_lost h)
  have hrearmed : keepsBut [.tamper] (chosenDevice d) (rearmStart d.power.storeIntact first (chosenDevice d)) := by
    rw [h, rearmStart_lost]
    exact keepsBut_trans (setTamper_keeps _ _) (rearmLines_keeps _ _)
  have hended : keepsBut [.power, .intake, .link, .service, .host] (resolveRelay (startedDevice first d))
      (endInitializing strap first d) := by
    rw [endInitializing_eq]
    exact keepsBut_comp (startPorts_keeps strap _) (setInitTiming_keeps false _)
  have hbefore : (rearmStart d.power.storeIntact first (chosenDevice d)).log = (lostDevice d).log :=
    hrearmed.log.trans (chosenDevice_lost h).log
  rw [startedDevice_lost h] at hframe hended
  refine ⟨keepsBut_comp (keepsBut_comp (n := [.power, .tamper, .relay, .log, .host])
    (keepsBut_comp (n := [.power, .tamper, .log, .host]) hlost hrearmed) (handStart_keeps _)) hframe, ?_, ?_, ?_⟩
  · rw [htamper, h, rearmStart_lost]
    simp only [rearmLines, clearDeferred, Device.setTamper_tamper, hlost.tamper]
  · exact ((handStart_grew _).after_same hbefore).trans (k := 4) ((resolveRelay_grew _).congr rfl hended.log)
  · exact ((handStart_cursorsKept _).after_same hbefore).trans
      ((resolveRelay_cursorsKept _).trans (.of_frame hended))

/-- A resolution moves the intake's energy-while-open accumulator alone, and that to 0 (R10). -/
theorem resolveRelay_intake {d : Device} (h : d.intake.openEnergy = 0) : (resolveRelay d).intake = d.intake := by
  have hsettled : ∀ p, (settle p d).intake = d.intake := fun p => by
    rw [settle_intake]
    cases p
    · rfl
    · show { d.intake with openEnergy := 0 } = d.intake
      rw [← h]
  unfold resolveRelay
  split
  · split
    · exact hsettled _
    · rfl
  · exact hsettled _

theorem endInitializing_lost_intake {d : Device} (h : d.power.storeIntact = false) (strap : Level) (first : List Source) :
    (endInitializing strap first d).intake
      = { d.intake with
          filters := Vector.replicate 3 .waiting, bands := Vector.replicate 4 0, lifetime := 0, reverse := 0,
          openEnergy := 0 } := by
  obtain ⟨_, _, hintake, _, _⟩ := endInitializing_blocks strap first d
  have hstarted : (startedDevice first d).intake = (retainedLoss (noteRestarted d)).intake := by
    rw [startedDevice_lost h]
    exact (handStart_keeps _).intake.trans ((rearmStart_keeps _ first _).intake.trans
      ((chosenDevice_lost h).intake.trans (lostDevice_keeps d).intake))
  rw [hintake, resolveRelay_intake (by rw [hstarted]; rfl), hstarted]
  rfl

/-- The first record after a failed check is the ACCOUNT_LOST record, and the cursors stand at 0 (R188). -/
theorem endInitializing_lost_log {d : Device} (h : d.power.storeIntact = false) (strap : Level) (first : List Source) :
    (endInitializing strap first d).log.records.head? = some { number := 0, time := none, data := .accountLost }
      ∧ (endInitializing strap first d).log.hostCursor = 0 ∧ (endInitializing strap first d).log.serviceCursor = 0
      ∧ (endInitializing strap first d).log.mark = none := by
  obtain ⟨_, _, hgrew, hcursors⟩ := endInitializing_lost h strap first
  obtain ⟨hrecords, hhost, hservice, hmark⟩ := lostDevice_log d
  obtain ⟨more, _, happended⟩ := hgrew.appended (by rw [hrecords]; decide)
  refine ⟨?_, hcursors.hostCursor.trans hhost, hcursors.serviceCursor.trans hservice, hcursors.mark.trans hmark⟩
  rw [happended, hrecords]
  rfl

/-! ### Settling O58 -/

/-- The relay at the end of INITIALIZING resolves at the position of the lines, or at the last confirmed one. -/
theorem endInitializing_relay {d : Device} (hmains : d.power.supply = .mains) (strap : Level) (first : List Source)
    (hunheld : d.relay.state = .unheld) :
    (endInitializing strap first d).relay.lastConfirmed
        = (auxPosition (endInitializing strap first d)).getD
            (if d.power.storeIntact then d.relay.lastConfirmed else .open)
      ∧ (endInitializing strap first d).relay.state
        = settledOn (endInitializing strap first d).relay.lastConfirmed (endInitializing strap first d) := by
  cases hintact : d.power.storeIntact with
  | true =>
    have hchosen := (chosenDevice_intact hintact).relay
    have hresolves := endInitializing_resolves hmains strap first (by rw [hchosen, hunheld])
    rw [hchosen] at hresolves
    exact hresolves
  | false =>
    have hchosen := (chosenDevice_lost hintact).relay.trans (lostDevice_keeps d).relay
    have hresolves := endInitializing_resolves hmains strap first (by rw [hchosen]; exact hunheld)
    rw [hchosen] at hresolves
    exact hresolves

/-- After a failed check every retained item is at its value of Table 10-4. -/
theorem endInitializing_lost_items {d : Device} (hlost : d.power.storeIntact = false) (hmains : d.power.supply = .mains)
    (strap : Level) (first : List Source) :
    let e := endInitializing strap first d
    e.account = lossAccount ∧ e.settings = lossSettings ∧ e.clock = lossClock ∧ e.residue = 0
      ∧ e.tariffs = { active := lossTariff, pending := none }
      ∧ e.intake = { d.intake with
          filters := Vector.replicate 3 .waiting, bands := Vector.replicate 4 0, lifetime := 0, reverse := 0,
          openEnergy := 0 }
      ∧ e.codes = { d.codes with used := [], floor := 1000000, validityDays := 0, windowMinutes := 0 }
      ∧ e.keypad = { d.keypad with refusals := 0, lockout := 0 } ∧ e.link.rate = .r2400
      ∧ e.load = { d.load with limit := 0, pendingLimit := none, backoff := 0, history := [] }
      ∧ e.tamper.sources = lossSources ∧ e.tamper.table = lossTable
      ∧ e.tamper.bypassThreshold = 10 ∧ e.tamper.reverseThreshold = 20
      ∧ (∀ l : Line, e.tamper.lines[l]
          = { d.tamper.lines[l] with filtered := levelActive lossTable[l] d.tamper.lines[l].raw, timing := false })
      ∧ e.relay.fault = none ∧ e.relay.reasons.remote = false ∧ e.relay.reasons.service = false
      ∧ e.relay.reasons.load = false
      ∧ e.log.records.head? = some { number := 0, time := none, data := .accountLost }
      ∧ e.log.hostCursor = 0 ∧ e.log.serviceCursor = 0 ∧ e.log.mark = none := by
  dsimp only
  obtain ⟨_, _, _, hrate, _⟩ := endInitializing_blocks strap first d
  obtain ⟨hkept, htamper, _, _⟩ := endInitializing_lost hlost strap first
  obtain ⟨hfault, hload, hremote, hservice⟩ := endInitializing_holds hmains strap first
  have hlostRate := ((chosenDevice_lost hlost).rate).trans (lostDevice_keeps d).rate
  rw [(chosenDevice_lost hlost).relay, (lostDevice_keeps d).relay] at hfault hload hremote hservice
  refine ⟨hkept.account, hkept.settings, hkept.clock, hkept.residue, hkept.tariffs,
    endInitializing_lost_intake hlost strap first, hkept.codes, hkept.keypad, hrate.trans hlostRate, hkept.load, ?_, ?_, ?_,
    ?_, fun l => ?_, hfault, hremote, hservice, hload, endInitializing_lost_log hlost strap first⟩
  all_goals rw [htamper]
  · rfl
  · rfl
  · rfl
  · rfl
  · exact Vector.getElem_ofFn _

theorem rearmStart_deferred (intact : Bool) (first : List Source) (d : Device) :
    (rearmStart intact first d).tamper.deferred = noDeferred := by
  cases intact
  · rfl
  · rw [rearmStart_intact_tamper]

/-- Settles O58: the stages of the end of INITIALIZING, each by what it leaves. -/
theorem endOfInitializingChoosesThePart : Obligations.EndOfInitializingChoosesThePart := by
  intro s strap first hinit htiming hmains
  obtain ⟨_, _, hpower⟩ := endInitializing_frame strap first s.device
  obtain ⟨hframe, htamper, _, hrate, haddress⟩ := endInitializing_blocks strap first s.device
  obtain ⟨hfault, hload, hremote, hservice⟩ := endInitializing_holds hmains strap first
  refine answers_stopped (f := fun d => _) (e := endInitializing strap first s.device) rfl
    (if_pos ⟨hinit, htiming, hmains⟩) (.inl (running_of_initializing hinit)) ?_
  refine ⟨congrArg Power.part hpower, congrArg Power.initTiming hpower, congrArg Power.storeIntact hpower, ?_,
    endInitializing_restarted hinit strap first, endInitializing_reasons strap first s.device, ?_, ?_,
    endInitializing_relay hmains strap first, fun hlost => ?_, fun hintact => ?_⟩
  · exact hframe.oneTime.trans (verifyStore_oneTime (noteRestarted s.device)).1
  · rw [haddress]
    cases strap <;> rfl
  · rw [htamper]
    exact rearmStart_deferred _ _ _
  · exact endInitializing_lost_items hlost hmains strap first
  · have hchosen := chosenDevice_intact hintact
    have hentry := rearmStart_intact_entry first (chosenDevice s.device)
    have hkept := keepsBut_comp
      (n := [.tamper, .account, .clock, .intake, .relay, .tariffs, .log, .host, .power, .link, .service]) hchosen hframe
    rw [hchosen.tamper] at hentry
    rw [hchosen.relay] at hfault hload hremote hservice
    rw [hintact] at htamper
    have hrearmed : ∀ x, sourceEntry (endInitializing strap first s.device) x
        = sourceEntry (rearmStart true first (chosenDevice s.device)) x := fun x => by
      rw [sourceEntry, htamper, sourceEntry]
    refine ⟨hkept.settings, hkept.residue, hkept.codes, hkept.load, hkept.keypad, ?_, ?_, ?_, hfault, hload, hremote,
      hservice⟩
    · have hlines : (rearmLines mainsFunction (chosenDevice s.device)).tamper
          = (rearmLines mainsFunction s.device).tamper := by
        simp only [rearmLines, Device.setTamper_tamper, hchosen.tamper]
      rw [htamper, rearmStart_intact_tamper, hlines]
    · intro x hx
      rw [hrearmed, (hentry x).1 hx, hchosen.sourceEntry]
    · intro x hx
      rw [hrearmed, ← hchosen.sourceEntry, ← exempted_congr hchosen.codes]
      exact (hentry x).2 hx

end Sys2Proof.Machine
end

end
